-- ==== Sys2Proof/Word.lean ====
section
/-!
DEFINITION. The bit-vector types of the model: byte, word and long word (92_eei_decisions.md D1, rule R41).
-/
namespace Sys2Proof

/-- A byte, 8 bits (rule R41, D1). -/
abbrev Byte := BitVec 8

/-- A word, 16 bits (rule R41, D1). -/
abbrev Word := BitVec 16

/-- A long word, 32 bits (rule R41, D1). Addresses (rule R40), VBR, ISP and PC are of this width. -/
abbrev Long := BitVec 32

end Sys2Proof
end

