-- ==== Sys2Proof/Machine/Elements.lean ====
section
/-!
DEFINITION. The plain types the state is made of: register records (10_state.md), signal levels (rule R26), read
causes (rule R44), and `Havoc`, one value for every element that reset leaves unspecified (rule R29). Widths that the
spec gives only as general knowledge are PRESUMED, the M68040's own (log 14).
-/
namespace Sys2Proof.Machine

/-- The condition codes, "every other bit of SR" in the family's layout (rules R11, R12). -/
structure CondCodes where
  x : Bool
  n : Bool
  z : Bool
  v : Bool
  c : Bool
  deriving DecidableEq, Repr, Inhabited

/-- The status register SR as named fields (rule R11). -/
structure StatusReg where
  t1 : Bool
  t0 : Bool
  s : Bool
  m : Bool
  i : BitVec 3
  ccr : CondCodes
  deriving DecidableEq, Repr, Inhabited

/-- The cache control register CACR (rule R14): two enable bits and its other thirty bits. -/
structure CacheControl where
  de : Bool
  ie : Bool
  rest : BitVec 30
  deriving DecidableEq, Repr, Inhabited

/-- The translation control register TC (rule R15): enable bit, page size, its other bits. -/
structure TranslationControl where
  e : Bool
  p : BitVec 1
  rest : BitVec 14
  deriving DecidableEq, Repr, Inhabited

/-- One transparent translation register (rule R16): enable bit and its other bits. -/
structure TransparentReg where
  e : Bool
  rest : BitVec 31
  deriving DecidableEq, Repr, Inhabited

/-- TTR[0] to TTR[3] (rule R16). -/
structure TransparentRegs where
  ttr0 : TransparentReg
  ttr1 : TransparentReg
  ttr2 : TransparentReg
  ttr3 : TransparentReg
  deriving DecidableEq, Repr, Inhabited

/-- The floating-point unit's registers (rule R21). -/
structure FloatRegs where
  fp : Vector (BitVec 80) 8
  fpcr : Long
  fpsr : Long
  fpiar : Long
  deriving DecidableEq, Repr, Inhabited

/-- One line of an on-chip cache: "every line's validity, tag, data and dirtiness" (rule R22), four long words of
data (rule R41). -/
structure CacheLine where
  valid : Bool
  dirty : Bool
  tag : Long
  words : Vector Long 4
  deriving DecidableEq, Repr, Inhabited

/-- One entry of the ATC with its tag (rule R23). -/
structure AtcEntry where
  tag : Long
  entry : Long
  deriving DecidableEq, Repr, Inhabited

/-- The six stages of the integer unit's pipeline (rule R123). -/
inductive PipelineStage where
  | instructionFetch
  | decode
  | eaCalculate
  | eaFetch
  | execute
  | writeBack
  deriving DecidableEq, Repr

/-- What one stage of the pipeline, or a shadow register, holds (rule R24): uninterpreted. -/
structure PipelineSlot where
  stage : PipelineStage
  work : Long
  deriving DecidableEq, Repr

/-- Levels on CDIS, MDIS, IPL2, IPL1 and IPL0 (rules R26, R116); true is asserted (rule R7). -/
structure ModePins where
  cdis : Bool
  mdis : Bool
  ipl2 : Bool
  ipl1 : Bool
  ipl0 : Bool
  deriving DecidableEq, Repr, Inhabited

/-- How the external device ends the transfer the processor has on the bus (rules R57, R126). -/
inductive Response where
  /-- Ended normally: TA asserted, data presented (rule R45). -/
  | normal
  /-- Ended with a retry: the read stays outstanding. -/
  | retry
  /-- Ended with a bus error. -/
  | busError
  /-- Not ended. -/
  | noAnswer
  deriving DecidableEq, Repr

/-- What one signal is at (rules R7, R26): an output has the third value. -/
inductive SignalLevel where
  | asserted
  | negated
  | threeStated
  deriving DecidableEq, Repr, Inhabited

/-- The outputs the source names (rules R26, R45, R56): MI, the arbitration and handshake signals, and the bundles, one
signal each by its number. The data bus is among them, for the processor drives it in a write. -/
inductive Output where
  /-- MI (rule R112). -/
  | mi
  /-- Bus request BR, bus busy BB as the processor drives it (rules R56, R115). -/
  | br
  | bb
  /-- Transfer start TS and transfer in progress TIP (rule R45 step 1). -/
  | ts
  | tip
  /-- R/W, asserted when it is set to read (log 35). -/
  | readWrite
  /-- CIOUT. -/
  | cacheInhibitOut
  /-- A31 to A0. -/
  | address (i : Fin 32)
  /-- D31 to D0. -/
  | data (i : Fin 32)
  /-- UPA1, UPA0. -/
  | userAttribute (i : Fin 2)
  /-- SIZ1, SIZ0. -/
  | size (i : Fin 2)
  /-- TT1, TT0. -/
  | transferType (i : Fin 2)
  /-- TM2 to TM0. -/
  | transferModifier (i : Fin 3)
  deriving DecidableEq, Repr

/-- What drives the output MI (rule R112); its level is `State.level`. -/
inductive MiDrive where
  /-- Asserted because the processor is in reset. -/
  | heldByReset
  /-- Its ordinary function, which the spec does not give (90_conflicts.md C8). -/
  | ordinary
  deriving DecidableEq, Repr

/-- Why the bus controller makes a read: the five cases of rule R44 that bypass the caches, case 3 and case 4 by
their members, and the line reads that fill a cache. -/
inductive ReadCause where
  /-- Case 1. -/
  | disabledCache
  /-- Case 2. -/
  | noncachablePage
  /-- Case 3. -/
  | readModifyWrite
  /-- Case 3, "accesses to an alternate logical address space via the MOVES instruction". -/
  | alternateSpace
  /-- Case 4. -/
  | tableSearch
  /-- Case 4. -/
  | exceptionVectorFetch
  /-- Case 4, "exception stack deallocation for an RTE instruction". -/
  | rteDeallocation
  /-- Case 5. -/
  | burstInhibitedLine
  /-- "All other reads are line reads that fill a cache". -/
  | cacheFill
  deriving DecidableEq, Repr

/-- What the processor does with its outputs other than MI (rules R45, R114, R115); the level of each of them is
`State.level`. -/
inductive BusDrive where
  /-- "all signals that can be, are three-stated, and the rest are driven to their inactive state" (rule R114). -/
  | quiet
  /-- The bus signals high-impedance, waiting for the bus (rule R115). -/
  | highImpedance
  /-- Implicit bus ownership taken, between two transfers (rules R115, R56). -/
  | implicitOwnership
  /-- The interrupt acknowledge bus cycle, not answered yet (rules R86, R126). -/
  | iackCycle
  /-- A read transfer that has not been ended (rule R45); `start` in its first clock, in which TS is asserted. -/
  | readTransfer (cause : ReadCause) (addr : Long) (start : Bool)
  /-- Ordinary running. -/
  | ordinary
  deriving DecidableEq, Repr

/-- One bus event of reset exception processing (rule R28). Every read is of one long word (rule R47). -/
inductive Event where
  /-- The interrupt acknowledge bus cycle (rule R86). -/
  | iackCycle
  /-- A long-word read that returned `value`. -/
  | read (cause : ReadCause) (addr value : Long)
  /-- A long-word read that failed (rule R91). -/
  | readFailed (cause : ReadCause) (addr : Long)
  deriving DecidableEq, Repr

/-- The next of the seven bus events of `Processing` (rule R118). -/
inductive BusEvent where
  /-- Rule R86. -/
  | iack
  /-- Rule R87, the read of vector number 0. -/
  | vector0
  /-- Rule R87, the read of vector number 1; `v0` is the long word already read from vector number 0. -/
  | vector1 (v0 : Long)
  /-- Rule R88, the prefetch read `k`. -/
  | prefetch (k : Fin 4)
  deriving DecidableEq, Repr

/-- One value for every state element that the reset rules do not write (rules R29, R119: the rows "any"). -/
structure Havoc where
  ccr : CondCodes
  cacrRest : BitVec 30
  tcRest : BitVec 14
  ttr0Rest : BitVec 31
  ttr1Rest : BitVec 31
  ttr2Rest : BitVec 31
  ttr3Rest : BitVec 31
  d : Vector Long 8
  a : Vector Long 7
  usp : Long
  msp : Long
  sfc : BitVec 3
  dfc : BitVec 3
  urp : Long
  srp : Long
  mmusr : Long
  fpu : FloatRegs
  dcache : List CacheLine
  icache : List CacheLine
  atc : List AtcEntry
  deriving DecidableEq, Repr, Inhabited

end Sys2Proof.Machine
end

