-- ==== Sys2Proof/Config.lean ====
section
/-!
DEFINITION. What the implementation fixes, the open parameters of rule R4 and the free values: the opaque constants
have no body, so no proof can see what they are, and a statement about them holds for every value.
-/
namespace Sys2Proof.Config

open Sys2Proof.Machine

/-- `T_SYNC`: clocks of internal synchronisation of RSTI (rules R4, R110). -/
def tSync : Nat := 2

/-- `T_HOLD`: clocks of internal hold after RSTI negates (rules R4, R113). -/
def tHold : Nat := 128

/-- By how much the minimum time RSTI is asserted exceeds eleven clocks: open (rule R117, D14; log 7). -/
opaque tRstiMinBeyond : Nat

/-- `T_RSTI_MIN`: more than ten clocks, otherwise open (rules R4, R117, D14; log 7). -/
def tRstiMin : Nat := tRstiMinBeyond + 11

/-- `RESET_TM`: the transfer modifier of the vector fetch, an open code (rules R4, R42, D8; log 22). -/
opaque resetTm : BitVec 3

/-- `HAVOC`: what every unspecified element holds after reset, one draw for the clock at which reset exception
processing concludes (rules R4, R29, D4, D5, D12, D18; log 2). -/
opaque havoc : Nat → Havoc

/-- Does the write-back at this place of the queue, pending when RSTI is recognised at this clock, reach memory
(rule R25, D24; log 18)? -/
opaque writeBackLands : Nat → Nat → Bool

/-- The level of an output under its ordinary function at this clock: MI after the hold (rule R112, 90_conflicts.md C8,
U23; log 19), and every output that no rule gives a level (log 35). -/
opaque levelOrdinary : Nat → Output → SignalLevel

/-- Is the output among those that can be, and are, three-stated in the reset period (rule R114, U24; log 20)? -/
opaque canThreeState : Output → Bool

/-- Is an output that rule R45 says is driven, at a level it does not give, asserted at this clock (UPA1, UPA0 and CIOUT;
log 35)? -/
opaque drivenLevel : Nat → Output → Bool

/-- The codes on SIZ1 and SIZ0 of a long word and on TT1 and TT0 of a read, and the code on TM2 to TM0 of a read that is no
vector fetch: not in the source (rules R41, R42, U17; log 22). -/
opaque sizeLong : BitVec 2
opaque readType : ReadCause → BitVec 2
opaque readModifier : ReadCause → BitVec 3

/-- Is TA asserted when a transfer ends with a retry or a bus error (rules R45, R57; log 8)? -/
opaque transferAcknowledge : Response → Bool

/-- Does the fetch at this clock see the write-back at this place of the queue (rules R52, R55; log 34)? -/
opaque fetchSeesWriteBack : Nat → Nat → Bool

/-- When the prefetched bytes and memory's differ, are the prefetched ones executed (rules R24, R55, R121; log 13)? -/
opaque prefetchServes : Nat → Bool

/-- What an instruction fetch through an enabled cache reads (rules R22, R121; log 13). -/
opaque cachedWord : Nat → Long

end Sys2Proof.Config
end

