-- ==== Sys2Proof/Machine/State.lean ====
section
/-!
DEFINITION. The state as plain data, holding all that rule R10 names, the two fields of the model's own (`clock`,
`schedule`), the faults and refusals, and `State.reset`.
-/
namespace Sys2Proof.Machine

/-- Why the machine stands faulted. The first two are the spec's (rule R91) and also name the phase in which the
machine waits for RSTI; a step answers one of them only when no further move is to come (log 11). -/
inductive Fault where
  /-- A read of reset exception processing failed at `addr`. Raised by rules R87 and R88. Safe (D10). -/
  | resetFetchFault (addr : Long)
  /-- The long word `v1` read from vector number 1 is odd. Raised by rule R87. Safe (D3). -/
  | resetOddPc (v1 : Long)
  /-- After reset exception processing: the bus did not deliver instruction bytes at `addr`. Raised by the fetch
  (log 12). Safe: the spec's run has ended (rule R125). -/
  | instructionFetchFault (addr : Long)
  deriving DecidableEq, Repr

/-- Why a step has no meaning. Every one is safe: the model declines where the spec gives no effect. -/
inductive Refusal where
  /-- An instruction without a meaning yet. No arm of `exec` uses it. Safe. -/
  | notModelled (mnemonic : String)
  /-- "MOVES: semantics not in source". Raised by MOVES (rule R70). Safe (D13, D23). -/
  | movesNotInSource
  /-- "RTE: semantics not in source". Raised by RTE (rule R71). Safe (D13, D23). -/
  | rteNotInSource
  /-- "instruction set not in source". Raised by the decoder's verdict on any other word (rule R64). Safe (D13). -/
  | instructionSetNotInSource
  /-- A memory access with `TC.E` or some `TTR[i].E` set. Raised by any bus read (rule R50). Safe (D13, U20). -/
  | translationEnabled
  deriving DecidableEq, Repr

/-- The reset phase (rules R27, R118). -/
inductive Phase where
  /-- RSTI has not been recognised and the processor is executing. -/
  | running
  /-- RSTI is asserted and has been recognised. -/
  | asserted
  /-- RSTI negated, internally held in reset, `n` clocks to go. -/
  | hold (n : Nat)
  /-- The processor is not yet granted the bus. -/
  | awaitBus
  /-- The bus events of reset exception processing are running. -/
  | processing (next : BusEvent)
  /-- Reset exception processing has concluded. -/
  | done
  /-- A fault of rule R91 has been raised; only a new assertion of RSTI leaves this phase (rule R92). -/
  | faulted (f : Fault)
  deriving DecidableEq, Repr

/-- The moves of the environment (rule R126). -/
inductive EnvMove where
  /-- Assert RSTI; `late` is how many clocks later than `T_SYNC` it is recognised (rule R110). -/
  | assertRsti (late : Nat)
  /-- Negate RSTI, handing over the five levels (rules R116, R118). -/
  | negateRsti (late : Nat) (levels : ModePins)
  /-- Return CDIS, MDIS and IPL2 to IPL0 to their normal levels (rule R116). -/
  | returnModePins (levels : ModePins)
  /-- Grant the bus (rule R115). -/
  | grantBus
  /-- Take the bus away (rule R118). -/
  | takeBus
  /-- Answer the interrupt acknowledge bus cycle; the vector number is ignored (rule R86). It answers no read. -/
  | answerIack (vector : Byte)
  /-- Answer reads normally. -/
  | answerRead
  /-- End the read with a retry (rule R57). -/
  | retryRead
  /-- End the read with a bus error (rule R57). -/
  | failRead
  /-- Leave transfers unanswered, reads and the acknowledge cycle. -/
  | withholdAnswer
  /-- Another bus master writes a byte (rule R56). -/
  | writeMemory (addr : Long) (b : Byte)
  deriving DecidableEq, Repr

/-- Whose move is next (rule R126): the processor's, one clock passing, or the environment's. -/
inductive Turn where
  | clock
  | env (m : EnvMove)
  deriving DecidableEq, Repr

/-- Memory: the bytes the platform admits as plain memory, addresses strictly rising. An unlisted address holds no
value and a read of it fails (D11, log 5). -/
abbrev Memory := List Host.Cell

/-- The whole machine (rule R10). -/
structure State where
  /-- The status register (rule R11). -/
  sr : StatusReg
  /-- The vector base register (rule R13). -/
  vbr : Long
  /-- The cache control register (rule R14). -/
  cacr : CacheControl
  /-- The translation control register (rule R15). -/
  tc : TranslationControl
  /-- The four transparent translation registers (rule R16). -/
  ttrs : TransparentRegs
  /-- The user and supervisor root pointers and the MMU status register (rule R17). -/
  urp : Long
  srp : Long
  mmusr : Long
  /-- The interrupt stack pointer (rule R18). -/
  isp : Long
  /-- The other stack pointers of the family (rule R18). -/
  usp : Long
  msp : Long
  /-- The program counter (rule R19). -/
  pc : Long
  /-- D0 to D7 (rule R20). -/
  d : Vector Long 8
  /-- A0 to A6 (rule R20); A7 is the active stack pointer (rule R18). -/
  a : Vector Long 7
  /-- The function code registers of MOVES (rule R70). -/
  sfc : BitVec 3
  dfc : BitVec 3
  /-- The floating-point unit (rule R21). -/
  fpu : FloatRegs
  /-- The data cache and the instruction cache (rule R22). -/
  dcache : List CacheLine
  icache : List CacheLine
  /-- The ATC (rule R23). -/
  atc : List AtcEntry
  /-- The prefetch buffer PF, in the order read (rule R24). -/
  pf : List Long
  /-- The pipeline's stages and the shadow registers (rules R24, R123). -/
  pipeline : List PipelineSlot
  shadow : List PipelineSlot
  /-- Write-backs that have not reached memory, oldest first (rules R25, R52). -/
  writeBacks : List (Long × Byte)
  /-- Memory (rule R40). -/
  mem : Memory
  /-- The input RSTI (rule R26), the clocks it has been at its level, and the environment's recognition delay
  (rule R110). -/
  rsti : Bool
  rstiAge : Nat
  rstiLate : Nat
  /-- The inputs CDIS, MDIS, IPL2 to IPL0, and their levels when RSTI was negated (rules R26, R116). -/
  pins : ModePins
  pinsAtNegation : ModePins
  /-- The bus-grant input (rule R26). -/
  bg : Bool
  /-- How the external device ends transfers (rule R57). -/
  response : Response
  /-- Whether the external device answers the interrupt acknowledge bus cycle (rule R126; log 9). -/
  iackAnswered : Bool
  /-- The output MI (rule R112). -/
  mi : MiDrive
  /-- The other outputs (rules R114, R115). -/
  bus : BusDrive
  /-- `SPECIAL_MODES` (rule R116). -/
  specialModes : ModePins
  /-- The vector number of the reset exception (rule R86). -/
  vec : Nat
  /-- The reset phase (rule R27). -/
  phase : Phase
  /-- The event history, oldest first (rule R28). -/
  history : List Event
  /-- The model's own: clocks passed; the free values are applied to it (log 2). -/
  clock : Nat
  /-- The model's own: whose turns are to come; when it is empty, clocks pass (log 1). -/
  schedule : List Turn
  deriving DecidableEq, Repr

/-- All five mode pins negated. -/
def ModePins.negated : ModePins := ⟨false, false, false, false, false⟩

/-- The script of 95_test_vectors.md P1 from the recognised assertion of RSTI on: negate RSTI with the five inputs
negated; three clocks to recognise it, 128 of hold and one to end the hold; grant the bus (log 3). -/
def bootSchedule : List Turn :=
  .env (.negateRsti 0 ModePins.negated) :: List.replicate 132 .clock ++ [.env .grantBus]

/-- What the family's floating-point registers hold after a reset: a nonsignaling NaN in each data register, zero in
the others. PRESUMED (log 14). -/
def FloatRegs.familyReset : FloatRegs :=
  ⟨Vector.replicate 8 0x7FFFFFFFFFFFFFFFFFFF#80, 0#32, 0#32, 0#32⟩

/-- The machine as a reset begins (rule R125: `phase = Asserted`), every register the reset exception writes already
at the value it writes (rules R83 to R86), the rest at the values of logs 3, 14 and 15, memory with nothing listed. -/
def State.reset : State where
  sr := ⟨false, false, true, false, 7#3, ⟨false, false, false, false, false⟩⟩
  vbr := 0#32
  cacr := ⟨false, false, 0#30⟩
  tc := ⟨false, 0#1, 0#14⟩
  ttrs := ⟨⟨false, 0#31⟩, ⟨false, 0#31⟩, ⟨false, 0#31⟩, ⟨false, 0#31⟩⟩
  urp := 0#32
  srp := 0#32
  mmusr := 0#32
  isp := 0#32
  usp := 0#32
  msp := 0#32
  pc := 0#32
  d := Vector.replicate 8 0#32
  a := Vector.replicate 7 0#32
  sfc := 0#3
  dfc := 0#3
  fpu := FloatRegs.familyReset
  dcache := []
  icache := []
  atc := []
  pf := []
  pipeline := []
  shadow := []
  writeBacks := []
  mem := []
  rsti := true
  rstiAge := 11
  rstiLate := 0
  pins := ModePins.negated
  pinsAtNegation := ModePins.negated
  bg := false
  response := .normal
  iackAnswered := true
  mi := .heldByReset
  bus := .quiet
  specialModes := ModePins.negated
  vec := 0
  phase := .asserted
  history := []
  clock := 0
  schedule := bootSchedule

end Sys2Proof.Machine
end

