-- ==== Sys2Proof/Machine/Bus.lean ====
section
/-!
DEFINITION. The bus as rules R26, R41, R44, R45 and R48 describe it: transfer sizes, which reads bypass the caches, what a
recorded event shows, and the level of every signal.
-/
namespace Sys2Proof.Machine

/-- The sizes of a bus transfer (rule R41). -/
inductive TransferSize where
  | byte
  | word
  | long
  | line
  deriving DecidableEq, Repr

/-- The size in bytes (rule R41, D1). -/
def TransferSize.bytes : TransferSize → Nat
  | .byte => 1
  | .word => 2
  | .long => 4
  | .line => 16

/-- The transfers that complete a line read: one line transfer, or, when transfer burst inhibit ends the first one,
that long word and "three additional long-word read transfers" (rule R44 case 5). -/
def lineReadTransfers (burstInhibited : Bool) : List TransferSize :=
  if burstInhibited then .long :: List.replicate 3 .long else [.line]

/-- The case of rule R44 a read falls under; none for a line read that fills a cache. -/
def ReadCause.bypassCase : ReadCause → Option Nat
  | .disabledCache => some 1
  | .noncachablePage => some 2
  | .readModifyWrite => some 3
  | .alternateSpace => some 3
  | .tableSearch => some 4
  | .exceptionVectorFetch => some 4
  | .rteDeallocation => some 4
  | .burstInhibitedLine => some 5
  | .cacheFill => none

/-- Is the data read "not placed in either of the internal caches" (rule R44)? -/
def ReadCause.bypassesCaches (c : ReadCause) : Bool := c.bypassCase.isSome

/-- The address and the size of a read event. -/
def Event.access : Event → Option (Long × TransferSize)
  | .iackCycle => none
  | .read _ a _ => some (a, .long)
  | .readFailed _ a => some (a, .long)

/-- The code on TM2 to TM0 of a read, for a platform that decodes it; that of the vector fetch is `RESET_TM` (rules R4, R42;
log 22). -/
def ReadCause.modifier (c : ReadCause) : BitVec 3 :=
  if c = .exceptionVectorFetch then Config.resetTm else Config.readModifier c

/-- The transfer modifier of a read event. -/
def Event.transferModifier : Event → Option (BitVec 3)
  | .iackCycle => none
  | .read c _ _ => some c.modifier
  | .readFailed c _ => some c.modifier

/-- A signal that is driven. -/
def SignalLevel.driven (b : Bool) : SignalLevel := if b then .asserted else .negated

/-- The level of an output in the reset period (rule R114, U24). -/
def quietLevel (o : Output) : SignalLevel := if Config.canThreeState o then .threeStated else .negated

/-- The level of an output while the processor waits for the bus: "all bus signals continue to remain in a high-impedance
state" (rule R115), and BR asks for the bus (log 35). -/
def waitingLevel (o : Output) : SignalLevel := if o = .br then .asserted else .threeStated

/-- The level of an output in a long-word read transfer, step 1 of rule R45: TS for its first clock, TIP throughout, R/W at
read, the address, the codes of the transfer, and user attributes and CIOUT driven. The device has the data bus. -/
def transferLevel (clock : Nat) (cause : ReadCause) (addr : Long) (start : Bool) : Output → SignalLevel
  | .ts => .driven start
  | .tip => .asserted
  | .readWrite => .asserted
  | .address i => .driven (addr.getLsbD i)
  | .size i => .driven (Config.sizeLong.getLsbD i)
  | .transferType i => .driven ((Config.readType cause).getLsbD i)
  | .transferModifier i => .driven (cause.modifier.getLsbD i)
  | .userAttribute i => .driven (Config.drivenLevel clock (.userAttribute i))
  | .cacheInhibitOut => .driven (Config.drivenLevel clock .cacheInhibitOut)
  | .data _ => .threeStated
  | .br => Config.levelOrdinary clock .br
  | .bb => Config.levelOrdinary clock .bb
  | .mi => Config.levelOrdinary clock .mi

/-- The level that each drive gives an output other than MI. -/
def BusDrive.level (b : BusDrive) (clock : Nat) (o : Output) : SignalLevel :=
  match b with
  | .quiet => quietLevel o
  | .highImpedance => waitingLevel o
  | .implicitOwnership => Config.levelOrdinary clock o
  | .iackCycle => Config.levelOrdinary clock o
  | .readTransfer cause addr start => transferLevel clock cause addr start o
  | .ordinary => Config.levelOrdinary clock o

/-- MI asserted by reset, or at the level of its ordinary function (rule R112; log 19). -/
def MiDrive.level (m : MiDrive) (clock : Nat) : SignalLevel :=
  match m with
  | .heldByReset => .asserted
  | .ordinary => Config.levelOrdinary clock .mi

/-- The level of every output (rules R7, R26): asserted, negated or three-stated. -/
def State.level (s : State) (o : Output) : SignalLevel :=
  if o = .mi then s.mi.level s.clock else s.bus.level s.clock o

/-- The input TA as the device drives it to a transfer (rule R45 steps 2 to 4): asserted to end it normally, negated while it
is not ended. -/
def Response.transferAcknowledge (r : Response) : Bool :=
  match r with
  | .normal => true
  | .noAnswer => false
  | .retry => Config.transferAcknowledge .retry
  | .busError => Config.transferAcknowledge .busError

/-- The processor may have a read transfer on the bus: one is on it, which the loss of the grant does not end (rules R45,
R118), or the bus is granted and no acknowledge cycle is on it. -/
def State.mayTransfer (s : State) : Bool :=
  match s.bus with
  | .readTransfer _ _ _ => true
  | .iackCycle => false
  | .quiet => s.bg
  | .highImpedance => s.bg
  | .implicitOwnership => s.bg
  | .ordinary => s.bg

/-- A read transfer goes on unanswered: TS is asserted in its first clock only (rule R45). -/
def BusDrive.holdTransfer (b : BusDrive) (cause : ReadCause) (addr : Long) : BusDrive :=
  match b with
  | .readTransfer _ _ _ => .readTransfer cause addr false
  | _ => .readTransfer cause addr true

end Sys2Proof.Machine
end

