-- ==== Sys2Proof/Machine/Flags.lean ====
section
/-!
DEFINITION. The status register: what the reset exception does to it (rule R83), the privilege mode it selects (rule
R97), tracing (rule R99), and the register as a word in the family's layout (rule R11; log 31).
-/
namespace Sys2Proof.Machine

/-- Step 1 of reset exception processing: S set, M, T1 and T0 clear, the interrupt mask at level 7, the other bits
not written (rule R83). -/
def StatusReg.enterReset (r : StatusReg) : StatusReg :=
  { r with s := true, m := false, t1 := false, t0 := false, i := 7#3 }

/-- The privilege modes (rule R97). -/
inductive PrivilegeMode where
  /-- S clear: implied by the figure titles. -/
  | user
  /-- S set, M clear: "the interrupt mode of the supervisor privilege mode". -/
  | supervisorInterrupt
  /-- S set, M set: the master mode. PRESUMED (log 31). -/
  | supervisorMaster
  deriving DecidableEq, Repr

/-- The mode that S and M select (rules R11, R97). -/
def StatusReg.mode (r : StatusReg) : PrivilegeMode :=
  if r.s then (if r.m then .supervisorMaster else .supervisorInterrupt) else .user

/-- Tracing is disabled when T1 and T0 are both clear (rule R99). -/
def StatusReg.tracing (r : StatusReg) : Bool := r.t1 || r.t0

/-- The five condition codes as the low five bits of SR, X highest (rule R11). PRESUMED (log 31). -/
def CondCodes.bits (c : CondCodes) : BitVec 5 :=
  BitVec.ofBool c.x ++ BitVec.ofBool c.n ++ BitVec.ofBool c.z ++ BitVec.ofBool c.v ++ BitVec.ofBool c.c

/-- SR as a 16-bit word: T1 at bit 15, T0 14, S 13, M 12, I 10 to 8, the condition codes 4 to 0 (rule R11, vector
V10). PRESUMED (log 31). -/
def StatusReg.word (r : StatusReg) : Word :=
  BitVec.ofBool r.t1 ++ BitVec.ofBool r.t0 ++ BitVec.ofBool r.s ++ BitVec.ofBool r.m ++ 0#1 ++ r.i ++ 0#3 ++ r.ccr.bits

end Sys2Proof.Machine
end

