-- ==== Sys2Proof/Machine/Ops.lean ====
section
/-!
DEFINITION. The named operations: memory (rules R40, R43), the clock and the RSTI synchroniser (rule R110), one bus
read (rules R45, R50, R57), and taking the reset exception as shared operations (rules R82 to R89). No return from it
exists: nothing is saved (rules R82, R95).
-/
namespace Sys2Proof.Machine

/-- The first address past the address space (rule R40). -/
def addressSpace : Nat := 4294967296

/-- The byte at an address, if the platform admits plain memory there (D11, log 5). -/
def Memory.readByte : Memory → Nat → Option Byte
  | [], _ => none
  | (k, b) :: rest, a => if k = a then some b else Memory.readByte rest a

/-- Memory with byte `b` at address `a`, in canonical form. -/
def Memory.writeByte : Memory → Nat → Byte → Memory
  | [], a, b => [(a, b)]
  | (k, c) :: rest, a, b =>
    if a < k then (a, b) :: (k, c) :: rest
    else if a = k then (a, b) :: rest
    else (k, c) :: Memory.writeByte rest a b

/-- The canonical form: addresses strictly rising and within the address space. An unlisted address holds no value, so
no entry can equal what it reads as. -/
def Memory.wf : Memory → Bool
  | [] => true
  | [(k, _)] => decide (k < addressSpace)
  | (k, _) :: (l, c) :: rest => decide (k < l) && Memory.wf ((l, c) :: rest)

/-- `MemRead(a, 1)` (rule R6). -/
def Memory.byteAt (m : Memory) (a : Long) : Option Byte := m.readByte a.toNat

/-- `MemRead(a, 2)`, the byte at the lowest address most significant (rule R43). -/
def Memory.wordAt (m : Memory) (a : Long) : Option Word :=
  match m.byteAt a, m.byteAt (a + 1) with
  | some b0, some b1 => some (b0 ++ b1)
  | _, _ => none

/-- `MemRead(a, 4)`, addresses modulo 2^32 (rules R5, R43). -/
def Memory.longAt (m : Memory) (a : Long) : Option Long :=
  match m.byteAt a, m.byteAt (a + 1), m.byteAt (a + 2), m.byteAt (a + 3) with
  | some b0, some b1, some b2, some b3 => some (b0 ++ b1 ++ b2 ++ b3)
  | _, _, _, _ => none

/-- One clock passes. It is the one unit in which the model counts T_SYNC, which the source gives in BCLKs, and T_HOLD,
which it gives in "clock cycles" (rules R110, R113, C7; log 36). -/
def State.tick (s : State) : State :=
  { s with clock := s.clock + 1, rstiAge := s.rstiAge + 1 }

/-- `T_SYNC` clocks and the environment's delay have passed since the clock edge that sampled the level RSTI has
(rule R110; log 6): the first edge at that level samples it. -/
def State.rstiSettled (s : State) : Bool := decide (Config.tSync + s.rstiLate < s.rstiAge)

/-- The assertion of RSTI has passed the synchroniser (rule R118, first row). -/
def State.assertionSeen (s : State) : Bool := s.rsti && s.rstiSettled

/-- The negation of RSTI has passed the synchroniser (rule R118, second row). -/
def State.negationSeen (s : State) : Bool := !s.rsti && s.rstiSettled

/-- Some enable bit of TC or of the four TTRs is set (rule R50). -/
def State.translationOn (s : State) : Bool :=
  s.tc.e || s.ttrs.ttr0.e || s.ttrs.ttr1.e || s.ttrs.ttr2.e || s.ttrs.ttr3.e

/-- What a long-word read on the bus comes to. -/
inductive BusRead where
  /-- Translation is on (rule R50). -/
  | translated
  /-- The bus is not granted (rules R115, R118). -/
  | noBus
  /-- The acknowledge cycle is still on the bus (rule R126). -/
  | acknowledging
  /-- The transfer ends with a retry (rule R57). -/
  | retried
  /-- The transfer is not ended. -/
  | unanswered
  /-- Bus error, or no plain memory there (rule R57, D11). -/
  | failed
  | value (v : Long)
  deriving DecidableEq, Repr

/-- One long-word read at physical address `a` (rules R45, R50, R57). -/
def State.busRead (s : State) (a : Long) : BusRead :=
  if s.translationOn then .translated
  else if s.mayTransfer then
    match s.response with
    | .normal =>
      match s.mem.longAt a with
      | some v => .value v
      | none => .failed
    | .busError => .failed
    | .retry => .retried
    | .noAnswer => .unanswered
  else if s.bus = .iackCycle then .acknowledging
  else .noBus

/-- Memory with those of the queued write-backs in it whose place in the queue `lands` names (rule R25). `n` is the place
of the first one. -/
def settleWriteBacks (lands : Nat → Bool) : Nat → List (Long × Byte) → Memory → Memory
  | _, [], m => m
  | n, (a, b) :: rest, m =>
    settleWriteBacks lands (n + 1) rest (if lands n then m.writeByte a.toNat b else m)

/-- RSTI is recognised: processing in progress is abandoned and nothing is saved (rule R82), the pipeline, the shadow
registers and PF are empty (rule R24), no write-back is pending, each having landed or not, freely (rule R25; log 18), MI
is asserted (rule R112) and the other outputs are three-stated or inactive (rule R114). -/
def State.abandon (s : State) : State :=
  { s with
    phase := .asserted, pipeline := [], shadow := [], pf := [], history := [],
    mem := settleWriteBacks (Config.writeBackLands s.clock) 0 s.writeBacks s.mem, writeBacks := [],
    mi := .heldByReset, bus := .quiet }

/-- The negation of RSTI is recognised: the hold starts and the five levels are latched (rules R113, R116). -/
def State.beginHold (s : State) : State :=
  { s with phase := .hold Config.tHold, specialModes := s.pinsAtNegation }

/-- Step 2: VBR zero, both cache enable bits clear (rule R84). -/
def State.resetControl (s : State) : State :=
  { s with vbr := 0#32, cacr := { s.cacr with de := false, ie := false } }

/-- The four TTRs with their enable bits clear (rule R85). -/
def TransparentRegs.disable (t : TransparentRegs) : TransparentRegs :=
  ⟨{ t.ttr0 with e := false }, { t.ttr1 with e := false }, { t.ttr2 with e := false }, { t.ttr3 with e := false }⟩

/-- Step 3: the enable bits of TC and of the four TTRs clear, the page size kept (rule R85). -/
def State.resetTranslation (s : State) : State :=
  { s with tc := { s.tc with e := false }, ttrs := s.ttrs.disable }

/-- The hold ends: steps 1 to 3 as one transition (rules R83, R84, R85, R89); MI is no longer held by reset, the bus
signals stay three-stated (rule R115). -/
def State.endHold (s : State) : State :=
  { ({ s with sr := s.sr.enterReset }).resetControl.resetTranslation with
    phase := .awaitBus, mi := .ordinary, bus := .highImpedance }

/-- The bus is granted: implicit bus ownership, then the first bus cycle is to come (rule R115). -/
def State.takeOwnership (s : State) : State :=
  { s with phase := .processing .iack, bus := .implicitOwnership }

/-- Step 4: the interrupt acknowledge bus cycle is recorded, the vector number is 0 (rule R86); the cycle is on the bus until
it is answered (rule R126). -/
def State.acknowledge (s : State) : State :=
  { s with
    history := s.history ++ [.iackCycle], vec := 0, phase := .processing .vector0,
    bus := if s.iackAnswered then .implicitOwnership else .iackCycle }

/-- The address of the reset exception vector (rule R87). -/
def State.vectorBase (s : State) : Long := s.vbr + BitVec.ofNat 32 (4 * s.vec)

/-- Step 5, once both long words are read: ISP and PC are loaded whole, and an odd PC is a fault (rules R60, R87). -/
def State.loadVector (s : State) (v0 v1 : Long) : State :=
  { s with
    isp := v0, pc := v1,
    phase := if v1.getLsbD 0 then .faulted (.resetOddPc v1) else .processing (.prefetch 0) }

/-- Every element that rules R83 to R88 did not write takes an unspecified value (rules R29, R89). -/
def State.havoc (s : State) : State :=
  let h := Config.havoc s.clock
  { s with
    sr := { s.sr with ccr := h.ccr }
    cacr := { s.cacr with rest := h.cacrRest }
    tc := { s.tc with rest := h.tcRest }
    ttrs := ⟨{ s.ttrs.ttr0 with rest := h.ttr0Rest }, { s.ttrs.ttr1 with rest := h.ttr1Rest },
      { s.ttrs.ttr2 with rest := h.ttr2Rest }, { s.ttrs.ttr3 with rest := h.ttr3Rest }⟩
    d := h.d, a := h.a, usp := h.usp, msp := h.msp, sfc := h.sfc, dfc := h.dfc
    urp := h.urp, srp := h.srp, mmusr := h.mmusr, fpu := h.fpu
    dcache := h.dcache, icache := h.icache, atc := h.atc }

/-- The address of prefetch read `k`, modulo 2^32 (rules R49, R88). -/
def State.prefetchAddr (s : State) (k : Fin 4) : Long := s.pc + BitVec.ofNat 32 (4 * k.val)

/-- Step 6, read `k` returned `w`: it joins PF, and after the fourth reset exception processing has concluded (rules
R88, R89). -/
def State.storePrefetch (s : State) (k : Fin 4) (w : Long) : State :=
  if h : k.val + 1 < 4 then { s with pf := s.pf ++ [w], phase := .processing (.prefetch ⟨k.val + 1, h⟩) }
  else { s.havoc with pf := s.pf ++ [w], phase := .done }

/-- The acknowledge cycle is on the bus: its answer ends it, whatever it is (rules R86, R126). -/
def State.awaitAcknowledge (s : State) : State :=
  { s with bus := if s.iackAnswered then .implicitOwnership else s.bus }

/-- The read transfer has ended: the processor is between two transfers (rule R45). -/
def State.endTransfer (s : State) : State := { s with bus := .implicitOwnership }

/-- The read transfer is on the bus and not ended (rule R45). -/
def State.holdTransfer (s : State) (cause : ReadCause) (a : Long) : State := { s with bus := s.bus.holdTransfer cause a }

/-- "What the chip does next is begin executing at PC" (rule R89; log 12). -/
def State.beginExecution (s : State) : State := { s with phase := .running, bus := .ordinary }

/-- A fault of rule R91 is recorded. -/
def State.raise (s : State) (f : Fault) : State := { s with phase := .faulted f }

/-- A bus event joins the history (rule R28). -/
def State.record (s : State) (e : Event) : State := { s with history := s.history ++ [e] }

/-- MI is asserted (rule R112). -/
def State.miAsserted (s : State) : Bool := s.level .mi == .asserted

end Sys2Proof.Machine
end

