-- ==== Sys2Proof/Machine/Environment.lean ====
section
/-!
DEFINITION. The environment's moves (rule R126): what each does to the inputs and to memory. No move writes a
register of the processor or PF.
-/
namespace Sys2Proof.Machine

/-- RSTI at the given level; a move that leaves the level as it is changes nothing (rule R110; log 6). -/
def State.driveRsti (s : State) (level : Bool) (late : Nat) : State :=
  if s.rsti = level then s else { s with rsti := level, rstiAge := 0, rstiLate := late }

/-- RSTI negated with the five levels handed over (rules R116, R126). -/
def State.negateRsti (s : State) (late : Nat) (levels : ModePins) : State :=
  if s.rsti then { s.driveRsti false late with pins := levels, pinsAtNegation := levels } else s

/-- The effect of one move of the environment (rule R126). -/
def State.applyEnv (s : State) (m : EnvMove) : State :=
  match m with
  | .assertRsti late => s.driveRsti true late
  | .negateRsti late levels => s.negateRsti late levels
  | .returnModePins levels => { s with pins := levels }
  | .grantBus => { s with bg := true }
  | .takeBus => { s with bg := false }
  | .answerIack _ => { s with iackAnswered := true }
  | .answerRead => { s with response := .normal }
  | .retryRead => { s with response := .retry }
  | .failRead => { s with response := .busError }
  | .withholdAnswer => { s with response := .noAnswer, iackAnswered := false }
  | .writeMemory a b => { s with mem := s.mem.writeByte a.toNat b }

end Sys2Proof.Machine
end

