-- ==== Sys2Proof/Syntax.lean ====
section
/-!
DEFINITION. The instructions of spec/opcode_table.json: MOVES (rule R70) and RTE (rule R71), the only mnemonics
of the spec (rule R63). Every other instruction word is refused by the decoder (rule R64).
-/
namespace Sys2Proof

/-- The general register that the extension word of MOVES names (field `A` and field `RRR`, rule R63). -/
inductive GeneralReg where
  /-- `A` = 0: data register `n`. -/
  | data (n : BitVec 3)
  /-- `A` = 1: address register `n`. -/
  | addr (n : BitVec 3)
  deriving DecidableEq, Repr

/-- The direction of MOVES (field `d`, rule R63). -/
inductive Direction where
  /-- `d` = 0. -/
  | memoryToRegister
  /-- `d` = 1. -/
  | registerToMemory
  deriving DecidableEq, Repr

/-- One constructor per row of spec/opcode_table.json. -/
inductive Instr where
  /-- MOVES (rule R70). `size` is the field `ss` (00 byte, 01 word, 10 long word), `mode` and `reg` the addressing
  mode of the memory operand and its register, which the spec does not define (rule R72). -/
  | moves (size : BitVec 2) (mode reg : BitVec 3) (r : GeneralReg) (dir : Direction)
  /-- RTE (rule R71). -/
  | rte
  deriving DecidableEq, Repr

end Sys2Proof
end

