-- ==== Sys2Proof/WellFormed.lean ====
section
/-!
DEFINITION. Which instruction terms stand for words of the opcode table.
-/
namespace Sys2Proof

/-- The one constraint of spec/opcode_table.json (rule R63): the size field of MOVES is not 11. -/
def Instr.wellFormed : Instr → Bool
  | .moves size _ _ _ _ => size != 3#2
  | .rte => true

end Sys2Proof
end

