-- ==== Sys2Proof/Decode.lean ====
section
/-!
DEFINITION. The decoder, total on any bytes and rejecting by name, then the encoder, then the host's
`decodeTableWord`. The encodings are those of rule R63 and spec/opcode_table.json, PRESUMED: the spec marks them as
general knowledge (log 25).
-/
namespace Sys2Proof

/-- Why the decoder refuses. -/
inductive DecodeReject where
  /-- There is no whole operation word. -/
  | truncated
  /-- No row of the opcode table: "instruction set not in source" (rule R64, 95_test_vectors.md V17). -/
  | notInSource
  deriving DecidableEq, Repr

/-- The four bytes of a long word, most significant first (rule R43). -/
def longBytes (w : Long) : List Byte :=
  [w.extractLsb' 24 8, w.extractLsb' 16 8, w.extractLsb' 8 8, w.extractLsb' 0 8]

/-- The two bytes of a word, most significant first (rule R43: instruction fetch too is big-endian). -/
def wordBytes (w : Word) : List Byte :=
  [w.extractLsb' 8 8, w.extractLsb' 0 8]

/-- The operation word of RTE. -/
def rteWord : Word := 0x4E73#16

/-- Is `w` an operation word of MOVES: high byte $0E and a size field that is not 11? -/
def isMovesWord (w : Word) : Bool :=
  w.extractLsb' 8 8 == 0x0E#8 && w.extractLsb' 6 2 != 3#2

/-- The register field of the extension word of MOVES. -/
def extensionReg (x : Word) : GeneralReg :=
  if x.getLsbD 15 then .addr (x.extractLsb' 12 3) else .data (x.extractLsb' 12 3)

/-- The direction field of the extension word of MOVES. -/
def extensionDir (x : Word) : Direction :=
  if x.getLsbD 11 then .registerToMemory else .memoryToRegister

/-- MOVES from its two words: the low eleven bits of the extension word are zero or it is no MOVES. -/
def decodeMoves (w x : Word) : Except DecodeReject Instr :=
  if x.extractLsb' 0 11 = 0#11 then
    .ok (.moves (w.extractLsb' 6 2) (w.extractLsb' 3 3) (w.extractLsb' 0 3) (extensionReg x) (extensionDir x))
  else .error .notInSource

/-- The decoder: from the bytes at an address, the instruction and the bytes after it, or why there is none. An operation word
of MOVES without its extension word is no row of the table, and its verdict is that of every other word (rule R64). -/
def decode : List Byte → Except DecodeReject (Instr × List Byte)
  | b0 :: b1 :: rest =>
    let w : Word := b0 ++ b1
    if w = rteWord then .ok (.rte, rest)
    else if isMovesWord w then
      match rest with
      | b2 :: b3 :: after =>
        match decodeMoves w (b2 ++ b3) with
        | .ok i => .ok (i, after)
        | .error e => .error e
      | _ => .error .notInSource
    else .error .notInSource
  | _ => .error .truncated

/-- The field `A` and the field `RRR` of the extension word. -/
def GeneralReg.bits : GeneralReg → BitVec 4
  | .data n => 0#1 ++ n
  | .addr n => 1#1 ++ n

/-- The field `d` of the extension word. -/
def Direction.bit : Direction → BitVec 1
  | .memoryToRegister => 0#1
  | .registerToMemory => 1#1

/-- The words of an instruction, from the encodings of rule R63. -/
def encode : Instr → List Word
  | .moves size mode reg r dir => [0x0E#8 ++ size ++ mode ++ reg, r.bits ++ dir.bit ++ 0#11]
  | .rte => [rteWord]

/-- The bytes of an instruction as memory holds them. -/
def encodeBytes (i : Instr) : List Byte := (encode i).flatMap wordBytes

/-- One row of spec/opcode_table.json: the fixed bits of its operation word. -/
structure OpcodeRow where
  mnemonic : String
  fixedBits : Word
  mask : Word
  deriving DecidableEq, Repr

/-- The rows of spec/opcode_table.json. -/
def opcodeTable : List OpcodeRow :=
  [⟨"MOVES", 0x0E00#16, 0xFF00#16⟩, ⟨"RTE", 0x4E73#16, 0xFFFF#16⟩]

/-- The two words of a table instruction whose bits, numbered as the table numbers them, are `w`: the first word is
the low sixteen bits, the second the next sixteen, every bit from `nbits` up zero; packed as the long word that the
hardware's byte order stores. -/
def tableLong (nbits w : Nat) : Long :=
  let v := w % 2 ^ nbits
  BitVec.ofNat 16 v ++ BitVec.ofNat 16 (v / 65536)

/-- The instruction the decoder reads from the table word `w` of `nbits` bits. -/
def decodeTableWord (nbits w : Nat) : Option Instr :=
  match decode (longBytes (tableLong nbits w)) with
  | .ok (i, _) => some i
  | .error _ => none

end Sys2Proof
end

