-- ==== Sys2Proof/Machine/Operands.lean ====
section
/-!
DEFINITION. The operand vocabulary: the active stack pointer (rule R18, D22), the general registers (rule R20) and the
size field of MOVES (rule R63). The spec defines no addressing mode (rules R62, R72), so there is no operand evaluation.
-/
namespace Sys2Proof.Machine

/-- The active stack pointer: ISP in the interrupt mode (rule R18, D22); USP in user mode and MSP in master mode are
PRESUMED (log 31). -/
def State.activeSp (s : State) : Long :=
  match s.sr.mode with
  | .user => s.usp
  | .supervisorInterrupt => s.isp
  | .supervisorMaster => s.msp

/-- `s` with the active stack pointer set. -/
def State.setActiveSp (s : State) (v : Long) : State :=
  match s.sr.mode with
  | .user => { s with usp := v }
  | .supervisorInterrupt => { s with isp := v }
  | .supervisorMaster => { s with msp := v }

/-- A general register (rule R20); A7 is the active stack pointer (rule R18). -/
def State.readReg (s : State) : GeneralReg → Long
  | .data n => s.d[n.toNat]'n.isLt
  | .addr n => if h : n.toNat < 7 then s.a[n.toNat]'h else s.activeSp

/-- A general register written whole. -/
def State.writeReg (s : State) (r : GeneralReg) (v : Long) : State :=
  match r with
  | .data n => { s with d := s.d.set n.toNat v n.isLt }
  | .addr n => if h : n.toNat < 7 then { s with a := s.a.set n.toNat v h } else s.setActiveSp v

/-- The size that the field `ss` of MOVES selects; 11 is no MOVES (rule R63). -/
def movesSize (ss : BitVec 2) : Option TransferSize :=
  if ss = 0#2 then some .byte else if ss = 1#2 then some .word else if ss = 2#2 then some .long else none

/-- The cause under which a read by MOVES goes to the bus (rule R44 case 3, rule R70). -/
def movesReadCause : ReadCause := .alternateSpace

/-- The cause under which the reads of RTE go to the bus (rule R44 case 4, rule R71). -/
def rteReadCause : ReadCause := .rteDeallocation

end Sys2Proof.Machine
end

