-- ==== Sys2Proof/Machine/Named.lean ====
section
/-!
DEFINITION. The meanings of the two instructions the spec names. The spec gives neither an effect: the pseudocode of
each rule is a refusal (40_named_instructions.md rules R70, R71; log 25).
-/
namespace Sys2Proof.Machine

/-- MOVES (rule R70): `refuse("MOVES: semantics not in source")`, for every operand. -/
def execMoves (_size : BitVec 2) (_mode _reg : BitVec 3) (_r : GeneralReg) (_dir : Direction) (_s : State) :
    Host.Outcome State Fault Refusal :=
  .refused .movesNotInSource

/-- RTE (rule R71): `refuse("RTE: semantics not in source")`. -/
def execRte (_s : State) : Host.Outcome State Fault Refusal :=
  .refused .rteNotInSource

end Sys2Proof.Machine
end

