-- ==== Sys2Proof/Machine/Dispatch.lean ====
section
/-!
DEFINITION. One arm per constructor of Instr.
-/
namespace Sys2Proof.Machine

def exec (i : Instr) (s : State) : Host.Outcome State Fault Refusal :=
  match i with
  | .moves size mode reg r dir => Sys2Proof.Machine.execMoves size mode reg r dir s
  | .rte => Sys2Proof.Machine.execRte s

end Sys2Proof.Machine
end

