-- ==== Sys2Proof/Machine/Fetch.lean ====
section
/-!
DEFINITION. What lies beyond the end of the spec's run (rules R27, R125): in `Running` the bytes of the next instruction, and
running it. Every word ends in a refusal, and the prefetched long words are never decoded (rule R64; logs 12, 13, 34).
-/
namespace Sys2Proof.Machine

/-- Up to `n` bytes of plain memory from address `a` on, addresses modulo 2^32. -/
def Memory.bytesFrom (m : Memory) : Long → Nat → List Byte
  | _, 0 => []
  | a, n + 1 =>
    match m.byteAt a with
    | some b => b :: Memory.bytesFrom m (a + 1) n
    | none => []

/-- What an instruction fetch comes to. -/
inductive Fetched where
  /-- Translation is on (rule R50). -/
  | translated
  /-- The bus is not granted, or does not answer. -/
  | waiting
  /-- Bus error (rule R57). -/
  | failed
  /-- The prefetched long words are executed; they are data and are not decoded (rule R64). -/
  | prefetched
  | bytes (bs : List Byte)
  deriving DecidableEq, Repr

/-- Memory as the fetch sees it: the source does not say whether a store still pending as a write-back is seen by a later
instruction fetch, so each pending byte is seen or not, freely (rules R52, R55; log 34). -/
def State.fetchMemory (s : State) : Memory :=
  settleWriteBacks (Config.fetchSeesWriteBack s.clock) 0 s.writeBacks s.mem

/-- The instruction's bytes from the bus, or from the instruction cache while it is enabled, whose contents are
unspecified (rules R44, R121 item 1; log 13). -/
def State.busBytes (s : State) : Fetched :=
  if s.cacr.ie then .bytes (longBytes (Config.cachedWord s.clock))
  else if s.bg then
    match s.response with
    | .normal => .bytes (s.fetchMemory.bytesFrom s.pc 4)
    | .busError => .failed
    | .retry => .waiting
    | .noAnswer => .waiting
  else .waiting

/-- The first prefetched long word is no longer what memory holds at PC (rule R121 item 3). -/
def State.prefetchStale (s : State) : Bool :=
  match s.pf with
  | [] => false
  | w :: _ => s.fetchMemory.bytesFrom s.pc 4 != longBytes w

/-- The instruction at PC: from the bus, or, when memory has changed since the prefetch, freely the prefetched long words
(rules R24, R55, R121 item 3; log 13). -/
def State.fetch (s : State) : Fetched :=
  if s.translationOn then .translated
  else if s.prefetchStale && Config.prefetchServes s.clock then .prefetched
  else s.busBytes

/-- Fetch, decode and run the instruction at PC. -/
def State.runInstruction (s : State) : Host.Outcome State Fault Refusal :=
  match s.fetch with
  | .translated => .refused .translationEnabled
  | .waiting => .next s
  | .failed => .fault (.instructionFetchFault s.pc)
  | .prefetched => .refused .instructionSetNotInSource
  | .bytes bs =>
    match decode bs with
    | .ok (i, _) => exec i s
    | .error .truncated => .fault (.instructionFetchFault (s.pc + BitVec.ofNat 32 bs.length))
    | .error .notInSource => .refused .instructionSetNotInSource

/-- The four bytes of `w` as plain memory at PC. -/
def Memory.writeLong (m : Memory) (a : Long) (w : Long) : Memory :=
  (((m.writeByte a.toNat (w.extractLsb' 24 8)).writeByte (a + 1).toNat (w.extractLsb' 16 8)).writeByte
    (a + 2).toNat (w.extractLsb' 8 8)).writeByte (a + 3).toNat (w.extractLsb' 0 8)

/-- `s` in `Running` with `w` as the long word at PC, RSTI negated, translation and the instruction cache off, no write-back
pending and nothing prefetched, the bus answering, and the processor's turn next (log 3). -/
def State.placeInstruction (s : State) (w : Long) : State :=
  { s with
    phase := .running, rsti := false, tc := { s.tc with e := false }, ttrs := s.ttrs.disable,
    cacr := { s.cacr with ie := false }, bg := true, response := .normal, mem := s.mem.writeLong s.pc w, writeBacks := [],
    pf := [], schedule := .clock :: s.schedule }

end Sys2Proof.Machine
end

