-- ==== Sys2Proof/Machine/Sequence.lean ====
section
/-!
DEFINITION. The reset sequence as a state machine, row by row of rule R118: the processor's turn in each phase, and
whose turn is next (rule R126).
-/
namespace Sys2Proof.Machine

/-- A read of reset exception processing: it is refused (rule R50), waits for the bus (rules R115, R118) or for the answer
to the acknowledge cycle (rule R126), is to be made again after a retry, is on the bus unanswered (rules R45, R57), fails
(rule R91), or its value goes on. -/
def State.readThen (s : State) (cause : ReadCause) (a : Long) (go : Long → State → State) :
    Host.Outcome State Fault Refusal :=
  match s.busRead a with
  | .translated => .refused .translationEnabled
  | .noBus => .next s
  | .acknowledging => .next s.awaitAcknowledge
  | .retried => .next s.endTransfer
  | .unanswered => .next (s.holdTransfer cause a)
  | .failed => .next ((s.endTransfer.record (.readFailed cause a)).raise (.resetFetchFault a))
  | .value v => .next (go v (s.endTransfer.record (.read cause a v)))

/-- The next of the seven bus events of reset exception processing (rules R86, R87, R88, R118). -/
def State.processEvent (s : State) (e : BusEvent) : Host.Outcome State Fault Refusal :=
  match e with
  | .iack => .next (if s.bg then s.acknowledge else s)
  | .vector0 => s.readThen .exceptionVectorFetch s.vectorBase
      fun v t => { t with phase := .processing (.vector1 v) }
  | .vector1 v0 => s.readThen .exceptionVectorFetch (s.vectorBase + 4)
      fun v t => t.loadVector v0 v
  | .prefetch k => s.readThen .disabledCache (s.prefetchAddr k)
      fun w t => t.storePrefetch k w

/-- A faulted state: it waits while a move is to come or RSTI is on its way through the synchroniser, and otherwise
the machine stops with the fault (rules R91, R92; log 11). -/
def State.standFaulted (s : State) (f : Fault) : Host.Outcome State Fault Refusal :=
  if s.rsti || !s.schedule.isEmpty then .next s else .fault f

/-- Executing (beyond the spec's run): while an assertion of RSTI is on its way through the synchroniser only the
clock passes, otherwise the instruction at PC is run (rules R27, R125; log 12). -/
def State.execute (s : State) : Host.Outcome State Fault Refusal :=
  if s.rsti then .next s else s.runInstruction

/-- The row of rule R118 for the phase the processor is in; no assertion of RSTI is recognised. -/
def State.phaseRow (s : State) : Host.Outcome State Fault Refusal :=
  match s.phase with
  | .running => s.execute
  | .asserted => .next (if s.negationSeen then s.beginHold else s)
  | .hold (n + 1) => .next { s with phase := .hold n }
  | .hold 0 => .next s.endHold
  | .awaitBus => .next (if s.bg then s.takeOwnership else s)
  | .processing e => s.processEvent e
  | .done => .next s.beginExecution
  | .faulted f => s.standFaulted f

/-- The processor's turn, one clock: a recognised assertion of RSTI comes before everything (rules R81, R92, R118 first
row); in `Asserted` it has already had its effect. -/
def State.clockTurn (s : State) : Host.Outcome State Fault Refusal :=
  if s.tick.assertionSeen && s.phase != .asserted then .next s.tick.abandon else s.tick.phaseRow

/-- One turn: the next of the schedule, or the processor's when the schedule is empty (rule R126; log 1). -/
def State.takeTurn (s : State) : Host.Outcome State Fault Refusal :=
  match s.schedule with
  | [] => s.clockTurn
  | .clock :: rest => ({ s with schedule := rest }).clockTurn
  | .env m :: rest => .next (({ s with schedule := rest }).applyEnv m)

end Sys2Proof.Machine
end

