-- ==== Sys2Proof/Machine/Step.lean ====
section
/-!
DEFINITION. The step of the machine, and the host's placing of an instruction.
-/
namespace Sys2Proof.Machine

/-- One step: one turn of rule R126. -/
def step (s : State) : Host.Outcome State Fault Refusal := s.takeTurn

/-- `s` with the table word `w` of `nbits` bits where the next step fetches its instruction (log 3). -/
def State.withFetchWord (s : State) (nbits w : Nat) : State := s.placeInstruction (tableLong nbits w)

end Sys2Proof.Machine
end

