-- ==== Sys2Proof/Safety.lean ====
section
/-!
DEFINITION. The terms claims use: whose turn it is, the reset period (rule R8), the registers after reset (rule R119),
what the history and PF hold while reset exception processing runs, the invariant of the machine, and the
environment's duties (rule R126).
-/
namespace Sys2Proof.Machine

/-- The processor moves next. -/
abbrev State.processorNext (s : State) : Prop :=
  match s.schedule with
  | [] => True
  | .clock :: _ => True
  | .env _ :: _ => False

/-- The state the processor's turn works on: its turn taken off the schedule and one clock passed. -/
def State.ticked (s : State) : State := ({ s with schedule := s.schedule.tail }).tick

/-- The processor moves next and recognises no assertion of RSTI in this turn. -/
abbrev State.undisturbed (s : State) : Prop := s.processorNext ∧ s.ticked.assertionSeen = false

/-- "Internally held in reset", interval (b) of rule R8: RSTI recognised, or the internal hold. -/
def State.inReset (s : State) : Bool :=
  match s.phase with
  | .asserted => true
  | .hold _ => true
  | _ => false

/-- The register values of rules R83, R84 and R85. -/
abbrev State.registersReset (s : State) : Prop :=
  s.sr.s = true ∧ s.sr.m = false ∧ s.sr.t1 = false ∧ s.sr.t0 = false ∧ s.sr.i = 7#3 ∧
  s.vbr = 0#32 ∧ s.cacr.de = false ∧ s.cacr.ie = false ∧ s.translationOn = false

/-- The reads of the reset exception vector that returned `v0` and `v1` (rules R48, R87). -/
def vectorEvents (v0 v1 : Long) : List Event :=
  [.iackCycle, .read .exceptionVectorFetch 0#32 v0, .read .exceptionVectorFetch 4#32 v1]

/-- The prefetch reads from address `a` on that returned the long words of the list (rules R49, R88). -/
def prefetchEvents : Long → List Long → List Event
  | _, [] => []
  | a, w :: rest => .read .disabledCache a w :: prefetchEvents (a + 4) rest

/-- The history of a reset whose vector was ISP and PC and whose prefetch so far is PF. -/
def State.resetHistory (s : State) : List Event := vectorEvents s.isp s.pc ++ prefetchEvents s.pc s.pf

/-- The state of the signals and of PF while the processor is in reset (rules R24, R25, R112, R114). -/
abbrev State.quietInReset (s : State) : Prop :=
  s.mi = .heldByReset ∧ s.bus = .quiet ∧ s.pipeline = [] ∧ s.shadow = [] ∧ s.pf = [] ∧ s.writeBacks = [] ∧
  s.history = []

/-- The processor is out of reset with nothing in its pipeline and no write-back pending (rule R119). -/
abbrev State.drained (s : State) : Prop :=
  s.mi = .ordinary ∧ s.pipeline = [] ∧ s.shadow = [] ∧ s.writeBacks = []

/-- What is true before each bus event of `Processing` (rules R86, R87, R88). -/
abbrev State.beforeEvent (s : State) : BusEvent → Prop
  | .iack => s.history = [] ∧ s.pf = []
  | .vector0 => s.history = [.iackCycle] ∧ s.vec = 0 ∧ s.pf = []
  | .vector1 v0 =>
    s.history = [.iackCycle, .read .exceptionVectorFetch 0#32 v0] ∧ s.vec = 0 ∧ s.pf = []
  | .prefetch k => s.pc.getLsbD 0 = false ∧ s.pf.length = k.val ∧ s.history = s.resetHistory

/-- The address an event of `Processing` reads (rules R87, R88). -/
def State.eventAddr (s : State) : BusEvent → Option Long
  | .iack => none
  | .vector0 => some s.vectorBase
  | .vector1 _ => some (s.vectorBase + 4)
  | .prefetch k => some (s.prefetchAddr k)

/-- The cause of that read (rules R48, R49). -/
def BusEvent.cause : BusEvent → ReadCause
  | .prefetch _ => .disabledCache
  | _ => .exceptionVectorFetch

/-- The processor owns the bus before event `e`: it is between two transfers, the acknowledge cycle is not answered yet, or
the transfer of `e` is on the bus, not yet ended (rules R45, R115, R126). -/
abbrev State.ownsBus (s : State) (e : BusEvent) : Prop :=
  s.bus = .implicitOwnership ∨ (e = .vector0 ∧ s.bus = .iackCycle) ∨
  ∃ a start, s.eventAddr e = some a ∧ s.bus = .readTransfer e.cause a start

/-- What is true in each phase (rules R27, R118, R119). -/
abbrev State.phaseInv (s : State) : Prop :=
  match s.phase with
  | .running => True
  | .asserted => s.quietInReset
  | .hold n => s.quietInReset ∧ n ≤ Config.tHold
  | .awaitBus => s.registersReset ∧ s.drained ∧ s.bus = .highImpedance ∧ s.history = [] ∧ s.pf = []
  | .processing e => s.registersReset ∧ s.drained ∧ s.ownsBus e ∧ s.beforeEvent e
  | .done =>
    s.registersReset ∧ s.drained ∧ s.bus = .implicitOwnership ∧ s.pc.getLsbD 0 = false ∧ s.pf.length = 4 ∧
    s.history = s.resetHistory
  | .faulted _ => s.registersReset ∧ s.drained ∧ s.bus = .implicitOwnership

/-- The invariant of the machine: memory is in canonical form and the phase's own facts hold. -/
abbrev State.Inv (s : State) : Prop := s.mem.wf = true ∧ s.phaseInv

/-- A read on the bus is answered with the long word `v` (rules R45, R50). -/
abbrev State.answers (s : State) (a v : Long) : Prop :=
  s.translationOn = false ∧ s.mayTransfer = true ∧ s.response = .normal ∧ s.mem.longAt a = some v

/-- A read on the bus fails (rules R57, R91, D11). -/
abbrev State.failsAt (s : State) (a : Long) : Prop :=
  s.translationOn = false ∧ s.mayTransfer = true ∧
  (s.response = .busError ∨ (s.response = .normal ∧ s.mem.longAt a = none))

/-- A transfer cannot start, for the bus is not granted (rules R115, R118). -/
abbrev State.busDenied (s : State) : Prop :=
  s.translationOn = false ∧ s.mayTransfer = false ∧ s.bus ≠ .iackCycle

/-- No read can start, for the acknowledge cycle is still on the bus (rule R126). -/
abbrev State.acknowledging (s : State) : Prop := s.translationOn = false ∧ s.bus = .iackCycle

/-- A transfer ends with a retry (rule R57). -/
abbrev State.retried (s : State) : Prop := s.translationOn = false ∧ s.mayTransfer = true ∧ s.response = .retry

/-- A transfer is not ended (rule R45, D10). -/
abbrev State.unanswered (s : State) : Prop :=
  s.translationOn = false ∧ s.mayTransfer = true ∧ s.response = .noAnswer

/-- A run of the spec ends here (rule R125). -/
def State.final (s : State) : Prop := s.phase = .done

/-- When the environment may make a move (rule R126, column "When it may happen"). The step does not enforce it; it is a
premise for claims (logs 1, 7, 21). The bus is taken away between two bus events, and another bus master writes at any time
but in the middle of one aligned transfer. -/
def EnvMove.allowed (m : EnvMove) (s : State) : Prop :=
  match m with
  | .assertRsti _ => True
  | .negateRsti _ _ => s.rsti = true ∧ Config.tRstiMin ≤ s.rstiAge
  | .returnModePins _ => s.rsti = false ∧ s.inReset = true ∧ s.phase ≠ .hold 0
  | .grantBus => s.phase = .awaitBus ∨ ∃ e, s.phase = .processing e
  | .takeBus => (∃ e, s.phase = .processing e) ∧ s.bus = .implicitOwnership
  | .answerIack _ => s.phase = .processing .vector0
  | .answerRead => ∃ e, s.phase = .processing e ∧ e ≠ .iack
  | .retryRead => ∃ e, s.phase = .processing e ∧ e ≠ .iack
  | .failRead => ∃ e, s.phase = .processing e ∧ e ≠ .iack
  | .withholdAnswer => ∃ e, s.phase = .processing e
  | .writeMemory _ _ => ∀ cause a start, s.bus = .readTransfer cause a start → a.toNat % 4 ≠ 0

/-- `n` steps from `s`, ending early at the first fault or refusal. -/
def runSteps : Nat → State → Host.Outcome State Fault Refusal
  | 0, s => .next s
  | n + 1, s =>
    match step s with
    | .next t => runSteps n t
    | .fault f => .fault f
    | .refused r => .refused r

/-- The next state of an outcome, if it has one. -/
def nextOf (o : Host.Outcome State Fault Refusal) : Option State :=
  match o with
  | .next t => some t
  | .fault _ => none
  | .refused _ => none

/-- An outcome seen by an observer who sees neither the mode pins, now and at the negation of RSTI, nor `SPECIAL_MODES`. -/
def hideModePins (o : Host.Outcome State Fault Refusal) : Host.Outcome State Fault Refusal :=
  match o with
  | .next t => .next { t with pins := ModePins.negated, pinsAtNegation := ModePins.negated, specialModes := ModePins.negated }
  | .fault f => .fault f
  | .refused r => .refused r

end Sys2Proof.Machine
end

