-- ==== Sys2Proof/Certificates/Slice0/Obligations.lean ====
section
/-!
DEFINITION. The statements for the provers: what the machine does in the reset sequence, from any state, and what the
decoder and the two named instructions do.
-/
open Sys2Proof Sys2Proof.Machine

/-! ### Reset signalling -/

/-- R80, R81, R92, R118 first row: a recognised assertion of RSTI is taken in every phase (but `Asserted`, where it has
already had its effect), whatever the interrupt mask and whatever fault is recorded. When an assertion counts as
recognised is log 6. That the event history is empty afterwards no rule says: it is the model's choice (log 27). -/
def Obligations.RecognisedRstiEntersAsserted : Prop :=
  ∀ s : State, s.processorNext → s.ticked.assertionSeen = true → s.phase ≠ .asserted →
    ∃ t, step s = .next t ∧ t.phase = .asserted ∧ t.history = []

/-- R82, R24, R25, R118: processing in progress is abandoned: the pipeline, the shadow registers and PF are empty and no
write-back is pending; nothing is saved: no register changes, and each byte of memory holds its old value or one that was
pending for it (D24, log 18). Beside them MI is asserted (R112), the other outputs are quiet (R114), and the history is
empty, which is the model's choice where R92 starts reset exception processing again (log 27). -/
def Obligations.RecognisedRstiAbandonsAndSavesNothing : Prop :=
  ∀ s : State, s.processorNext → s.ticked.assertionSeen = true → s.phase ≠ .asserted →
    ∃ t, step s = .next t ∧
      t = { s.ticked with
            phase := .asserted, pipeline := [], shadow := [], pf := [], writeBacks := [], history := [],
            mi := .heldByReset, bus := .quiet, mem := t.mem } ∧
      ∀ a : Nat, t.mem.readByte a = s.mem.readByte a ∨
        ∃ p ∈ s.writeBacks, p.1.toNat = a ∧ t.mem.readByte a = some p.2

/-- R112: MI is asserted, driven and not three-stated, from the recognition of RSTI on and in every state a step reaches
while the processor is in reset. -/
def Obligations.MiAssertedWhileInReset : Prop :=
  ∀ s t : State, s.Inv → step s = .next t → t.inReset = true → t.miAsserted = true ∧ t.level .mi = .asserted

/-- R114, U24: in the reset period every output but MI is three-stated if it can be, and negated otherwise, so none is
asserted. Which can be is open (log 20). -/
def Obligations.OutputsQuietWhileInReset : Prop :=
  ∀ (s t : State) (o : Output), s.Inv → step s = .next t → t.inReset = true → o ≠ .mi →
    t.level o = (if Config.canThreeState o then .threeStated else .negated) ∧ t.level o ≠ .asserted

/-- R113, R116, R118: when the negation of RSTI has passed the synchroniser the hold starts at 128 and the five levels at
the negation are latched, and nothing else changes; before that the processor stays in `Asserted` (logs 6, 21). -/
def Obligations.NegatedRstiStartsHold : Prop :=
  ∀ s : State, s.processorNext → s.phase = .asserted →
    (s.ticked.negationSeen = true →
      step s = .next { s.ticked with phase := .hold 128, specialModes := s.pinsAtNegation }) ∧
    (s.ticked.negationSeen = false → step s = .next s.ticked)

/-- R113, R118: during the hold each clock takes one off the count and changes nothing else (D14: the clock is the model's
one unit). -/
def Obligations.HoldCountsDown : Prop :=
  ∀ (s : State) (n : Nat), s.undisturbed → s.phase = .hold (n + 1) →
    step s = .next { s.ticked with phase := .hold n }

/-- R113, R118, V11: with RSTI negated, `k` clocks into a hold of `n` the machine holds at `n - k`: no bus event, no
register, no byte of memory has changed. -/
def Obligations.HoldLastsItsClocks : Prop :=
  ∀ (s : State) (n k : Nat), s.schedule = [] → s.rsti = false → s.phase = .hold n → k ≤ n →
    runSteps k s =
      .next { s with phase := .hold (n - k), clock := s.clock + k, rstiAge := s.rstiAge + k }

/-- R92, V12: an assertion of RSTI recognised during the hold abandons the count: the next hold starts again at 128. -/
def Obligations.HoldAbandonedByRsti : Prop :=
  ∀ (s : State) (n : Nat), s.processorNext → s.phase = .hold n → s.ticked.assertionSeen = true →
    ∃ t, step s = .next t ∧ t.phase = .asserted ∧
      ∀ u : State, u.processorNext → u.phase = t.phase → u.ticked.negationSeen = true →
        ∃ v, step u = .next v ∧ v.phase = .hold 128

/-- R110, R117, R126: since T_RSTI_MIN exceeds T_SYNC, an assertion that the environment recognises without a delay of its
own (rstiLate = 0) and may negate has already passed the synchroniser. It rests on T_RSTI_MIN being above 10 (log 7, a
model choice) and on when a change counts as seen (log 6). -/
def Obligations.DutifulRstiPulseIsSeen : Prop :=
  ∀ (s : State) (late : Nat) (levels : ModePins), (EnvMove.negateRsti late levels).allowed s → s.rstiLate = 0 →
    s.assertionSeen = true

/-- R110, R118: no step recognises an assertion of RSTI, or its negation, before T_SYNC clocks have passed since the clock
that sampled the change, and then the environment's delay; from then on the assertion is recognised. That the first clock
after the change samples it is log 6. -/
def Obligations.RstiIsRecognisedAfterSynchronisation : Prop :=
  (∀ s t : State, s.processorNext → step s = .next t → s.rsti = true → s.phase ≠ .asserted →
    s.rstiAge < Config.tSync + s.rstiLate → t.phase ≠ .asserted) ∧
  (∀ s t : State, s.processorNext → step s = .next t → s.rsti = true → Config.tSync + s.rstiLate ≤ s.rstiAge →
    t.phase = .asserted) ∧
  (∀ s t : State, s.processorNext → step s = .next t → s.rsti = false → s.phase = .asserted →
    s.rstiAge < Config.tSync + s.rstiLate → t.phase = .asserted) ∧
  (∀ s t : State, s.processorNext → step s = .next t → s.rsti = false → s.phase = .asserted →
    Config.tSync + s.rstiLate ≤ s.rstiAge → t.phase = .hold 128)

/-! ### Taking the reset exception -/

/-- R83: at the end of the hold (D6, log 32) S is set, M, T1 and T0 are clear, so that the processor is in the interrupt
mode of the supervisor privilege mode with tracing disabled, the interrupt mask is 7, and no other bit of SR is written.
That this happens at the end of the hold R83 does not say: it is D6 and the model's choice. -/
def Obligations.HoldEndWritesStatusRegister : Prop :=
  ∀ s : State, s.undisturbed → s.phase = .hold 0 →
    ∃ t, step s = .next t ∧
      t.sr = { s.sr with s := true, m := false, t1 := false, t0 := false, i := 7#3 } ∧
      t.sr.mode = .supervisorInterrupt ∧ t.sr.tracing = false

/-- R84, R89: at the end of the hold (D6, the model's choice, log 32) VBR is zero, both cache enable bits are clear, no
other bit of CACR is written and the contents of the caches do not change in this step, which is the model's choice (log
16): R84 says only that they are not said to change. -/
def Obligations.HoldEndClearsVbrAndCacheEnables : Prop :=
  ∀ s : State, s.undisturbed → s.phase = .hold 0 →
    ∃ t, step s = .next t ∧ t.vbr = 0#32 ∧ t.cacr = { s.cacr with de := false, ie := false } ∧
      t.dcache = s.dcache ∧ t.icache = s.icache

/-- R85: at the end of the hold the enable bits of TC and of the four TTRs are clear and the page size is kept. That this
happens at the end of the hold R85 does not say: it is D6 and the model's choice (log 32). That no address is translated
then is decision D9 (log 24). -/
def Obligations.HoldEndDisablesTranslationKeepsPageSize : Prop :=
  ∀ s : State, s.undisturbed → s.phase = .hold 0 →
    ∃ t, step s = .next t ∧ t.tc = { s.tc with e := false } ∧ t.tc.p = s.tc.p ∧
      t.ttrs.ttr0 = { s.ttrs.ttr0 with e := false } ∧ t.ttrs.ttr1 = { s.ttrs.ttr1 with e := false } ∧
      t.ttrs.ttr2 = { s.ttrs.ttr2 with e := false } ∧ t.ttrs.ttr3 = { s.ttrs.ttr3 with e := false } ∧
      t.translationOn = false

/-- R89, R118 row Hold(0): the whole transition of the end of the hold: beside the registers of R83 to R85 only the phase,
MI and the bus signals change (D6, log 32). -/
def Obligations.HoldEndChangesNothingElse : Prop :=
  ∀ s : State, s.undisturbed → s.phase = .hold 0 →
    ∃ t, step s = .next t ∧
      t = { s.ticked with
            sr := t.sr, vbr := t.vbr, cacr := t.cacr, tc := t.tc, ttrs := t.ttrs,
            phase := .awaitBus, mi := .ordinary, bus := .highImpedance } ∧
      ∀ a : Nat, t.mem.readByte a = s.mem.readByte a

/-- R18, R97, D22: after the hold the active stack pointer, seen as A7, is ISP, whatever the mode before. That is the
model's reading of D22 (log 31). -/
def Obligations.HoldEndSelectsInterruptStack : Prop :=
  ∀ s : State, s.undisturbed → s.phase = .hold 0 →
    ∃ t, step s = .next t ∧ t.activeSp = t.isp ∧ t.readReg (.addr 7#3) = s.isp

/-- V10: the SR as a word in the family's layout is $2700 after R83, the condition codes apart. PRESUMED (log 31). -/
def Obligations.StatusWordAfterReset : Prop :=
  ∀ r : StatusReg, r.enterReset.word &&& 0xFFE0#16 = 0x2700#16 ∧ r.enterReset.word.extractLsb' 0 5 = r.ccr.bits

/-- R115, V13: without the bus granted nothing changes; the grant gives implicit bus ownership and starts the bus events
(D16, log 26). -/
def Obligations.AwaitBusWaitsForGrant : Prop :=
  ∀ s : State, s.undisturbed → s.phase = .awaitBus →
    (s.bg = false → step s = .next s.ticked) ∧
    (s.bg = true → step s = .next { s.ticked with phase := .processing .iack, bus := .implicitOwnership })

/-- R115: in every state a step reaches while the processor waits for the bus, every bus signal but BR is high-impedance.
That BR, which asks for the bus, is asserted is PRESUMED (log 35). -/
def Obligations.AwaitBusSignalsAreHighImpedance : Prop :=
  ∀ (s t : State) (o : Output), s.Inv → step s = .next t → t.phase = .awaitBus →
    (o ≠ .mi → o ≠ .br → t.level o = .threeStated) ∧ t.level .br = .asserted

/-- R86: with the bus the interrupt acknowledge cycle is recorded and the vector number is 0, whatever the bus answers
(D7, log 9); without it the processor waits. A cycle that is not answered at once is on the bus from then on (R126, log
9). -/
def Obligations.AcknowledgeCycleGivesVectorZero : Prop :=
  ∀ s : State, s.undisturbed → s.phase = .processing .iack →
    (s.bg = true → step s = .next { s.ticked with
      history := s.history ++ [.iackCycle], vec := 0, phase := .processing .vector0,
      bus := if s.iackAnswered then .implicitOwnership else .iackCycle }) ∧
    (s.bg = false → step s = .next s.ticked)

/-- R126, R86: while the acknowledge cycle is on the bus no read starts: unanswered it waits, whatever else the bus does,
and the answer ends it and changes nothing else, so the next bus event may proceed (log 9). -/
def Obligations.AcknowledgeCycleWaitsForAnswer : Prop :=
  ∀ (s : State) (e : BusEvent) (a : Long), s.undisturbed → s.phase = .processing e → s.eventAddr e = some a →
    s.acknowledging →
    (s.iackAnswered = false → step s = .next s.ticked) ∧
    (s.iackAnswered = true → step s = .next { s.ticked with bus := .implicitOwnership })

/-- R87: the read of vector number 0, at VBR + 4·vec, is kept for ISP; no register is loaded yet (log 10). -/
def Obligations.FirstVectorReadIsKept : Prop :=
  ∀ (s : State) (v0 : Long), s.undisturbed → s.phase = .processing .vector0 →
    s.answers (s.vbr + BitVec.ofNat 32 (4 * s.vec)) v0 →
    step s = .next { s.ticked with
      history := s.history ++ [.read .exceptionVectorFetch (s.vbr + BitVec.ofNat 32 (4 * s.vec)) v0],
      phase := .processing (.vector1 v0), bus := .implicitOwnership }

/-- R87, R60: the read of vector number 1, one long word on, loads ISP with the first long word and PC with the second,
whole (log 10). An odd PC is the model fault ResetOddPC (decision D3); an even one goes on to the prefetch. -/
def Obligations.SecondVectorReadLoadsIspAndPc : Prop :=
  ∀ (s : State) (v0 v1 : Long), s.undisturbed → s.phase = .processing (.vector1 v0) →
    s.answers (s.vbr + BitVec.ofNat 32 (4 * s.vec) + 4) v1 →
    step s = .next { s.ticked with
      isp := v0, pc := v1,
      history := s.history ++ [.read .exceptionVectorFetch (s.vbr + BitVec.ofNat 32 (4 * s.vec) + 4) v1],
      bus := .implicitOwnership,
      phase := if v1.getLsbD 0 then .faulted (.resetOddPc v1) else .processing (.prefetch 0) }

/-- R88, R49: a prefetch read before the fourth adds the long word at PC + 4k to PF; PC is not advanced (D11, log 23). -/
def Obligations.PrefetchReadJoinsPf : Prop :=
  ∀ (s : State) (k : Nat) (hk : k + 1 < 4) (w : Long), s.undisturbed →
    s.phase = .processing (.prefetch ⟨k, by omega⟩) → s.answers (s.pc + BitVec.ofNat 32 (4 * k)) w →
    step s = .next { s.ticked with
      pf := s.pf ++ [w],
      history := s.history ++ [.read .disabledCache (s.pc + BitVec.ofNat 32 (4 * k)) w],
      phase := .processing (.prefetch ⟨k + 1, hk⟩), bus := .implicitOwnership }

/-- R89, R29, R119: the fourth prefetch read concludes reset exception processing: every element outside the write list
takes a free value, and what R83 to R88 wrote, TC.P, memory and the inputs stay (D4, D5, D12, D18, log 2). -/
def Obligations.FourthPrefetchConcludes : Prop :=
  ∀ (s : State) (w : Long), s.undisturbed → s.phase = .processing (.prefetch 3) → s.answers (s.pc + 12) w →
    ∃ h : Havoc, step s = .next { s.ticked with
      phase := .done, pf := s.pf ++ [w], bus := .implicitOwnership,
      history := s.history ++ [.read .disabledCache (s.pc + 12) w],
      sr := { s.sr with ccr := h.ccr }, cacr := { s.cacr with rest := h.cacrRest },
      tc := { s.tc with rest := h.tcRest },
      ttrs := ⟨{ s.ttrs.ttr0 with rest := h.ttr0Rest }, { s.ttrs.ttr1 with rest := h.ttr1Rest },
        { s.ttrs.ttr2 with rest := h.ttr2Rest }, { s.ttrs.ttr3 with rest := h.ttr3Rest }⟩,
      d := h.d, a := h.a, usp := h.usp, msp := h.msp, sfc := h.sfc, dfc := h.dfc, urp := h.urp, srp := h.srp,
      mmusr := h.mmusr, fpu := h.fpu, dcache := h.dcache, icache := h.icache, atc := h.atc }

/-! ### Reads: failing, waiting, refused, recorded -/

/-- R91, R57, D10, D11: a read of reset exception processing that ends with a bus error, or at an address with no plain
memory, records the fault with its address and loads nothing (logs 5, 8, 11). -/
def Obligations.FailedReadIsResetFetchFault : Prop :=
  ∀ (s : State) (e : BusEvent) (a : Long), s.undisturbed → s.phase = .processing e → s.eventAddr e = some a →
    s.failsAt a →
    step s = .next { s.ticked with
      phase := .faulted (.resetFetchFault a), bus := .implicitOwnership, history := s.history ++ [.readFailed e.cause a] }

/-- R45, R57, R118, D10: a transfer that has not started waits for the bus and nothing changes; a retried transfer is over
and the read is still to come; a transfer that is not ended stays on the bus, granted or not: TS is asserted in its first
clock only, TIP throughout, R/W at read, the address is on A31 to A0. No register, byte of memory or event changes (logs
8, 23, 35). -/
def Obligations.UnansweredReadWaits : Prop :=
  ∀ (s : State) (e : BusEvent) (a : Long), s.undisturbed → s.phase = .processing e → s.eventAddr e = some a →
    (s.busDenied → step s = .next s.ticked) ∧
    (s.retried → step s = .next { s.ticked with bus := .implicitOwnership }) ∧
    (s.unanswered → ∃ t first, step s = .next t ∧
      t = { s.ticked with bus := .readTransfer e.cause a first } ∧
      (first = false ↔ ∃ c x b, s.bus = .readTransfer c x b) ∧
      t.level .tip = .asserted ∧ t.level .readWrite = .asserted ∧
      t.level .ts = (if first then .asserted else .negated) ∧
      ∀ i : Fin 32, t.level (.address i) = if a.getLsbD i then .asserted else .negated)

/-- R45 step 1, "assert TS for one clock": a transfer on the bus has, one clock later, ended, or is on the bus still with
TS negated, the bus granted or not. That a transfer outlives the loss of the grant is the model's choice (log 23), and so
are the levels shown while it is not ended (log 35). -/
def Obligations.TransferStartLastsOneClock : Prop :=
  ∀ (s t : State) (e : BusEvent) (c : ReadCause) (x : Long) (b : Bool), s.undisturbed → s.phase = .processing e →
    s.eventAddr e ≠ none → s.bus = .readTransfer c x b → step s = .next t →
    t.bus = .implicitOwnership ∨
    ∃ a, s.eventAddr e = some a ∧ t.bus = .readTransfer e.cause a false ∧ t.level .ts = .negated

/-- R50, D13: any read with TC.E or some TTR[i].E set is refused, by reset exception processing and by the fetch (log 24).
-/
def Obligations.TranslatedAccessIsRefused : Prop :=
  ∀ s : State, s.undisturbed → s.translationOn = true →
    ((∃ e a, s.phase = .processing e ∧ s.eventAddr e = some a) ∨ (s.phase = .running ∧ s.rsti = false)) →
    step s = .refused .translationEnabled

/-- R44, R48, R49: every event a step appends to the history is the acknowledge cycle or a read that is one of the five
cases that bypass the caches. -/
def Obligations.RecordedReadsBypassCaches : Prop :=
  ∀ (s t : State) (e : Event), step s = .next t → t.history = s.history ++ [e] →
    e = .iackCycle ∨
    ∃ cause a, (cause.bypassesCaches = true) ∧ ((∃ v, e = .read cause a v) ∨ e = .readFailed cause a)

/-- R43, D2: a long word is read most significant byte first, the addresses modulo 2^32. PRESUMED (log 4). -/
def Obligations.LongReadIsBigEndian : Prop :=
  ∀ (m : Memory) (a v : Long), m.longAt a = some v ↔
    ∃ b0 b1 b2 b3 : Byte, m.byteAt a = some b0 ∧ m.byteAt (a + 1) = some b1 ∧ m.byteAt (a + 2) = some b2 ∧
      m.byteAt (a + 3) = some b3 ∧
      v.toNat = 16777216 * b0.toNat + 65536 * b1.toNat + 256 * b2.toNat + b3.toNat

/-- R47, R28, R118: a step leaves the history, appends one event to it, in `Processing` and with the bus granted or its
transfer already on the bus (log 23), or empties it when RSTI is recognised (log 27). -/
def Obligations.BusEventsOnlyInProcessing : Prop :=
  ∀ s t : State, step s = .next t →
    t.history = s.history ∨
    ((∃ e, s.phase = .processing e) ∧ (s.bg = true ∨ ∃ c x b, s.bus = .readTransfer c x b) ∧
      ∃ e, t.history = s.history ++ [e]) ∨
    (t.phase = .asserted ∧ t.history = [])

/-- R47, R51, R56, R25: a step changes a byte of memory only by a write of another bus master, which lands, or by a
write-back that was pending, in the step that recognises RSTI. That a pending write-back lands there or never is the
model's choice (D24, log 18). -/
def Obligations.StepMemoryFrame : Prop :=
  (∀ (s t : State) (a : Nat), step s = .next t →
    t.mem.readByte a = s.mem.readByte a ∨
    (∃ x b, s.schedule.head? = some (.env (.writeMemory x b)) ∧ x.toNat = a ∧ t.mem.readByte a = some b) ∨
    (t.phase = .asserted ∧ ∃ p ∈ s.writeBacks, p.1.toNat = a ∧ t.mem.readByte a = some p.2)) ∧
  (∀ (s : State) (x : Long) (b : Byte) (rest : List Turn), s.schedule = .env (.writeMemory x b) :: rest →
    ∃ t, step s = .next t ∧ t.mem.readByte x.toNat = some b ∧
      ∀ a : Nat, a ≠ x.toNat → t.mem.readByte a = s.mem.readByte a)

/-! ### Whole-machine rules -/

/-- R118, R126: every step of either agent keeps the invariant `State.Inv`: memory stays in canonical form, and each phase
has its facts: in reset MI is asserted, the other outputs are quiet and nothing is in the pipeline or pending; from the
end of the hold on the registers hold the reset values; during the bus events the history and PF are exactly what has been
read so far, and PC is even from its load on. -/
def Obligations.StepKeepsResetInvariant : Prop :=
  ∀ s t : State, s.Inv → step s = .next t → t.Inv

/-- The invariant holds as a reset begins; the values there are the spec's where it gives them and the model's otherwise
(logs 3, 14, 15). -/
def Obligations.ResetStateMeetsInvariant : Prop :=
  State.reset.Inv ∧ State.reset.registersReset ∧ State.reset.phase = .asserted ∧ State.reset.mem = []

/-- R119: a step from a state that meets the invariant, into `Done`, ends with R119's register values, PC even, PF four
long words, nothing pending or in the pipeline, and as history the acknowledge cycle, the two vector reads that gave ISP
and PC, and the four prefetch reads at PC, PC + 4, PC + 8 and PC + 12. That the prefetch is exactly these four long-word
reads the source does not say (R49, R125): it is D11 and the model's choice (log 23). -/
def Obligations.DoneStateIsTheResetState : Prop :=
  ∀ s t : State, s.Inv → step s = .next t → t.final →
    t.registersReset ∧ t.pc.getLsbD 0 = false ∧ t.writeBacks = [] ∧ t.pipeline = [] ∧ t.shadow = [] ∧
    ∃ w0 w1 w2 w3, t.pf = [w0, w1, w2, w3] ∧
      t.history = [.iackCycle, .read .exceptionVectorFetch 0#32 t.isp, .read .exceptionVectorFetch 4#32 t.pc,
        .read .disabledCache t.pc w0, .read .disabledCache (t.pc + 4) w1, .read .disabledCache (t.pc + 8) w2,
        .read .disabledCache (t.pc + 12) w3]

/-- R118, R119, R126, V1: from any state at `n` clocks of hold, whatever its registers hold, with RSTI negated, the bus
granted and the acknowledge cycle and every read answered, reset exception processing concludes `n + 9` turns later with
ISP and PC from addresses 0 and 4 and PF from the sixteen bytes at PC, PC even, TC.P and memory unchanged. That a grant
given during the hold counts (log 26) and how many turns this takes (logs 1, 9, 23, 32) are the model's choices; R122
gives no upper bound. -/
def Obligations.OrdinaryBootConcludes : Prop :=
  ∀ (s : State) (n : Nat) (v0 v1 w0 w1 w2 w3 : Long), s.phase = .hold n → s.schedule = [] → s.rsti = false →
    s.bg = true → s.iackAnswered = true → s.response = .normal → s.history = [] → s.pf = [] →
    s.mem.longAt 0 = some v0 → s.mem.longAt 4 = some v1 → v1.getLsbD 0 = false →
    s.mem.longAt v1 = some w0 → s.mem.longAt (v1 + 4) = some w1 → s.mem.longAt (v1 + 8) = some w2 →
    s.mem.longAt (v1 + 12) = some w3 →
    ∃ t, runSteps (n + 9) s = .next t ∧ t.final ∧ t.registersReset ∧ t.isp = v0 ∧ t.pc = v1 ∧
      t.pf = [w0, w1, w2, w3] ∧ t.tc.p = s.tc.p ∧ t.mem = s.mem ∧
      t.history = vectorEvents v0 v1 ++ prefetchEvents v1 [w0, w1, w2, w3]

/-- R89, R125: `Done` is entered only by the fourth prefetch read. That no clock leaves the machine in `Done` is the
model's choice, for R118 gives `Done` no step (log 12); a step that starts and ends there is one of the environment. -/
def Obligations.DoneOnlyAfterFourthPrefetch : Prop :=
  ∀ s t : State, step s = .next t → t.phase = .done →
    (s.phase = .done ∧ ¬ s.processorNext) ∨
    (s.phase = .processing (.prefetch 3) ∧ s.undisturbed ∧ ∃ w, s.answers (s.pc + 12) w)

/-- R91, R92: while no assertion of RSTI is recognised a faulted state stays as it is, or, when no move is to come and
RSTI is negated, the machine stops with the fault (log 11). -/
def Obligations.FaultedStateWaitsForRsti : Prop :=
  ∀ (s : State) (f : Fault), s.undisturbed → s.phase = .faulted f →
    ((s.rsti = true ∨ s.schedule.tail ≠ []) → step s = .next s.ticked) ∧
    (s.rsti = false → s.schedule.tail = [] → step s = .fault f)

/-- R15, R85, R124, V2: no step changes the page size. -/
def Obligations.PageSizeSurvivesEveryStep : Prop :=
  ∀ s t : State, step s = .next t → t.tc.p = s.tc.p

/-- R116, D15, V16: neither the five inputs, nor their levels at the negation of RSTI, nor SPECIAL_MODES influence
anything else (log 21). -/
def Obligations.ModePinsInfluenceNothing : Prop :=
  ∀ (s : State) (p q m : ModePins),
    hideModePins (step { s with pins := p, pinsAtNegation := q, specialModes := m }) = hideModePins (step s)

/-- R126, R110, R116: what each move of the environment does, and that it does nothing else: no move writes a register of
the processor, PF, SPECIAL_MODES, the phase or the history, and no clock passes. A move of RSTI restarts its age, its
negation hands over the five levels; a move to the level RSTI has is none (log 6). The answers are levels, withheld
together (logs 8, 9); what the answer to the acknowledge cycle hands over is dropped (log 9). -/
def Obligations.EnvironmentNeverWritesRegisters : Prop :=
  ∀ (s : State) (m : EnvMove) (rest : List Turn), s.schedule = .env m :: rest →
    step s = .next
      (match m with
      | .assertRsti late =>
        if s.rsti then { s with schedule := rest }
        else { s with schedule := rest, rsti := true, rstiAge := 0, rstiLate := late }
      | .negateRsti late levels =>
        if s.rsti then
          { s with
            schedule := rest, rsti := false, rstiAge := 0, rstiLate := late, pins := levels, pinsAtNegation := levels }
        else { s with schedule := rest }
      | .returnModePins levels => { s with schedule := rest, pins := levels }
      | .grantBus => { s with schedule := rest, bg := true }
      | .takeBus => { s with schedule := rest, bg := false }
      | .answerIack _ => { s with schedule := rest, iackAnswered := true }
      | .answerRead => { s with schedule := rest, response := .normal }
      | .retryRead => { s with schedule := rest, response := .retry }
      | .failRead => { s with schedule := rest, response := .busError }
      | .withholdAnswer => { s with schedule := rest, response := .noAnswer, iackAnswered := false }
      | .writeMemory a b => { s with schedule := rest, mem := s.mem.writeByte a.toNat b })

/-- R20, R18, D22: a general register written reads back, the write leaves every other general register alone, and A7 is
the active stack pointer: ISP in the interrupt mode. The registers are the family's (log 14), A7 is PRESUMED (log 31). -/
def Obligations.GeneralRegisterReadAfterWrite : Prop :=
  (∀ (s : State) (r q : GeneralReg) (v : Long),
    (s.writeReg r v).readReg r = v ∧ (q ≠ r → (s.writeReg r v).readReg q = s.readReg q)) ∧
  (∀ s : State, s.readReg (.addr 7#3) = s.activeSp ∧ (s.sr.mode = .supervisorInterrupt → s.activeSp = s.isp))

/-! ### Instructions -/

/-- R63: decoding an encoded well-formed instruction gives it back, with the bytes after it. -/
def Obligations.DecodeOfEncode : Prop :=
  ∀ (i : Instr) (rest : List Byte), i.wellFormed = true → decode (encodeBytes i ++ rest) = .ok (i, rest)

/-- R63: whatever decodes is the encoding of a well-formed instruction. -/
def Obligations.EncodeOfDecode : Prop :=
  ∀ (bs : List Byte) (i : Instr) (rest : List Byte), decode bs = .ok (i, rest) →
    i.wellFormed = true ∧ bs = encodeBytes i ++ rest

/-- R64, V17: an operation word with the fixed bits of no row of the opcode table, or with $0E and size field 11, is
refused unnamed. -/
def Obligations.DecoderRefusesEveryOtherWord : Prop :=
  ∀ (b0 b1 : Byte) (rest : List Byte),
    ((∀ row ∈ opcodeTable, (b0 ++ b1 : Word) &&& row.mask ≠ row.fixedBits) ∨
      (b0 = 0x0E#8 ∧ b1.extractLsb' 6 2 = 3#2)) →
    decode (b0 :: b1 :: rest) = .error .notInSource

/-- R64: a whole word that is no instruction of the table, a MOVES word without its extension word too, gets the one
unnamed verdict. -/
def Obligations.DecoderVerdictOnEveryWord : Prop :=
  ∀ (b0 b1 : Byte) (rest : List Byte),
    (∃ i after, decode (b0 :: b1 :: rest) = .ok (i, after)) ∨ decode (b0 :: b1 :: rest) = .error .notInSource

/-- V17: $4E73 is RTE, $0E10 $0000 and $0E90 $8800 are MOVES with the operands the vector names, $0ED0, $4E71 and $4E72
are refused unnamed. -/
def Obligations.SpecWordsDecode : Prop :=
  decode [0x4E#8, 0x73#8] = .ok (.rte, []) ∧
  decode [0x0E#8, 0x10#8, 0x00#8, 0x00#8] =
    .ok (.moves 0#2 2#3 0#3 (.data 0#3) .memoryToRegister, []) ∧
  decode [0x0E#8, 0x90#8, 0x88#8, 0x00#8] =
    .ok (.moves 2#2 2#3 0#3 (.addr 0#3) .registerToMemory, []) ∧
  decode [0x0E#8, 0xD0#8] = .error .notInSource ∧
  decode [0x4E#8, 0x71#8] = .error .notInSource ∧ decode [0x4E#8, 0x72#8] = .error .notInSource

/-- R70: MOVES refuses, for every operand, in every state; its accesses bypass both caches. -/
def Obligations.MovesIsRefused : Prop :=
  (∀ (size : BitVec 2) (mode reg : BitVec 3) (r : GeneralReg) (dir : Direction) (s : State),
    exec (.moves size mode reg r dir) s = .refused .movesNotInSource) ∧
  movesReadCause.bypassCase = some 3

/-- R71: RTE refuses in every state; the reads of its stack deallocation bypass both caches. -/
def Obligations.RteIsRefused : Prop :=
  (∀ s : State, exec .rte s = .refused .rteNotInSource) ∧ rteReadCause.bypassCase = some 4

/-- In `Running` the step fetches, decodes and runs: when the bytes fetched at PC decode to an instruction, the step is
`exec` of it after one clock. The model's own, beyond the end of the spec's run (log 12). -/
def Obligations.StepRunsDecodedInstruction : Prop :=
  ∀ (s : State) (bs rest : List Byte) (i : Instr), s.processorNext → s.rsti = false → s.phase = .running →
    s.ticked.fetch = .bytes bs → decode bs = .ok (i, rest) → step s = exec i s.ticked

/-- R55, R121: with translation and the instruction cache off and the bus answering, the fetch reads memory's bytes at PC;
each of them is the stored one or one still pending as a write-back (log 34); and prefetched long words that memory no
longer holds may be executed instead, as data that is not decoded (log 13). The model's own. -/
def Obligations.FetchReadsAtPc : Prop :=
  ∀ s : State, s.translationOn = false → s.cacr.ie = false → s.bg = true → s.response = .normal →
    (∀ w, s.writeBacks = [] → s.mem.longAt s.pc = some w → (s.pf = [] ∨ s.pf.head? = some w) →
      s.fetch = .bytes (longBytes w)) ∧
    (s.fetch = .prefetched ∧ s.pf ≠ [] ∨ s.fetch = .bytes (s.fetchMemory.bytesFrom s.pc 4)) ∧
    (∀ a : Nat, s.fetchMemory.readByte a = s.mem.readByte a ∨
      ∃ p ∈ s.writeBacks, p.1.toNat = a ∧ s.fetchMemory.readByte a = some p.2)

/-- From `Done` the processor begins executing at PC, every register, PF and memory as they were; and in `Running`, with
the bus answering and a long word at PC, the step is a refusal, whatever is there. That the machine goes on after `Done`
and what it fetches is the model's choice (logs 12, 13, 34): R125 and D13 end the run at `Done`. The verdict is R64's. -/
def Obligations.FirstInstructionIsRefused : Prop :=
  (∀ s : State, s.undisturbed → s.phase = .done → step s = .next { s.ticked with phase := .running, bus := .ordinary }) ∧
  (∀ (s : State) (w : Long), s.processorNext → s.rsti = false → s.phase = .running → s.translationOn = false →
    s.bg = true → s.response = .normal → s.writeBacks = [] → s.mem.longAt s.pc = some w → ∃ r, step s = .refused r)

/-- R64: in `Running` the prefetched long words are held as data and never decoded: PF makes no difference to what a step
comes to, but that, when memory as the fetch sees it no longer holds the first of them at PC, the unnamed verdict may
stand instead (R121, log 13). -/
def Obligations.PrefetchedWordsAreNeverDecoded : Prop :=
  ∀ s t : State, t = { s with pf := [] } → s.phase = .running → s.processorNext →
    (step s = .refused .instructionSetNotInSource ∧
      ∃ w ws, s.pf = w :: ws ∧ s.ticked.fetchMemory.bytesFrom s.pc 4 ≠ longBytes w) ∨
    (∃ u, step s = .next u ∧ step t = .next { u with pf := [] }) ∨
    (∃ f, step s = .fault f ∧ step t = .fault f) ∨ (∃ r, step s = .refused r ∧ step t = .refused r)

/-- An instruction placed by the host's `withFetchWord` is the one the very next step runs (log 3). -/
def Obligations.PlacedInstructionRuns : Prop :=
  ∀ (s : State) (nbits w : Nat) (i : Instr), decodeTableWord nbits w = some i →
    step (s.withFetchWord nbits w) = exec i (s.withFetchWord nbits w).ticked
end

