-- ==== Sys2Proof/Laws/Memory.lean ====
section
/-!
SUPPORT. The laws of memory: a byte written is read back, a write leaves every other byte alone, every operation keeps
the canonical form, and what settling the pending write-backs can do.
-/
namespace Sys2Proof.Machine

theorem Memory.readByte_writeByte_self (m : Memory) (a : Nat) (b : Byte) :
    (m.writeByte a b).readByte a = some b := by
  induction m with
  | nil => simp [writeByte, readByte]
  | cons c rest ih =>
    obtain ⟨k, v⟩ := c
    unfold writeByte
    split
    · simp [readByte]
    · split
      · simp [readByte]
      · simp [readByte, ih]
        omega

theorem Memory.readByte_writeByte_of_ne (m : Memory) {a a' : Nat} (b : Byte) (h : a' ≠ a) :
    (m.writeByte a b).readByte a' = m.readByte a' := by
  induction m with
  | nil => simp [writeByte, readByte, h.symm]
  | cons c rest ih =>
    obtain ⟨k, v⟩ := c
    unfold writeByte
    split
    · simp [readByte, h.symm]
    · split
      · subst_vars
        simp [readByte, h.symm]
      · simp [readByte, ih]

/-- The canonical form unfolded one entry: the first address is in range, below the next one, and the rest is canonical. -/
theorem Memory.wf_cons (k : Nat) (v : Byte) (rest : Memory) :
    Memory.wf ((k, v) :: rest) = true ↔
      k < addressSpace ∧ (∀ l c, rest.head? = some (l, c) → k < l) ∧ Memory.wf rest = true := by
  induction rest generalizing k v with
  | nil => simp [wf]
  | cons c rest ih =>
    obtain ⟨l, w⟩ := c
    simp only [wf, Bool.and_eq_true, decide_eq_true_eq, List.head?_cons, Option.some.injEq, Prod.mk.injEq, and_imp]
    constructor
    · rintro ⟨hkl, hr⟩
      have := (ih l w).1 hr
      exact ⟨by omega, fun l' _ h _ => by omega, hr⟩
    · rintro ⟨-, h, hr⟩
      exact ⟨h l w rfl rfl, hr⟩

theorem Memory.wf_writeByte (m : Memory) {a : Nat} (b : Byte) (ha : a < addressSpace) (hm : m.wf = true) :
    (m.writeByte a b).wf = true := by
  induction m with
  | nil => simpa [writeByte, wf] using ha
  | cons c rest ih =>
    obtain ⟨k, v⟩ := c
    obtain ⟨hk, hhead, hrest⟩ := (wf_cons k v rest).1 hm
    unfold writeByte
    split
    · exact (wf_cons _ _ _).2 ⟨ha, by simp only [List.head?_cons, Option.some.injEq, Prod.mk.injEq]; omega, hm⟩
    · split
      · exact (wf_cons _ _ _).2 ⟨ha, by subst_vars; exact hhead, hrest⟩
      · refine (wf_cons _ _ _).2 ⟨hk, ?_, ih hrest⟩
        intro l c hl
        cases rest with
        | nil => simp only [writeByte, List.head?_cons, Option.some.injEq, Prod.mk.injEq] at hl; omega
        | cons d rest' =>
          obtain ⟨l', c'⟩ := d
          have := hhead l' c' rfl
          unfold writeByte at hl
          split at hl
          · simp only [List.head?_cons, Option.some.injEq, Prod.mk.injEq] at hl; omega
          · split at hl <;> simp only [List.head?_cons, Option.some.injEq, Prod.mk.injEq] at hl <;> omega

theorem Long.toNat_lt_addressSpace (a : Long) : a.toNat < addressSpace := a.isLt

theorem Memory.wf_writeLong (m : Memory) (a w : Long) (hm : m.wf = true) : (m.writeLong a w).wf = true := by
  unfold writeLong
  iterate 4 refine wf_writeByte _ _ (Long.toNat_lt_addressSpace _) ?_
  exact hm

theorem settleWriteBacks_wf (lands : Nat → Bool) (n : Nat) (q : List (Long × Byte)) (m : Memory) (hm : m.wf = true) :
    (settleWriteBacks lands n q m).wf = true := by
  induction q generalizing n m with
  | nil => exact hm
  | cons p q ih =>
    refine ih _ _ ?_
    split
    · exact Memory.wf_writeByte _ _ (Long.toNat_lt_addressSpace _) hm
    · exact hm

/-- After settling, a byte is the old one or one that was pending for its address (rule R25). -/
theorem settleWriteBacks_readByte (lands : Nat → Bool) (n : Nat) (q : List (Long × Byte)) (m : Memory) (a : Nat) :
    (settleWriteBacks lands n q m).readByte a = m.readByte a ∨
      ∃ p ∈ q, p.1.toNat = a ∧ (settleWriteBacks lands n q m).readByte a = some p.2 := by
  induction q generalizing n m with
  | nil => exact .inl rfl
  | cons p q ih =>
    obtain ⟨x, b⟩ := p
    obtain h | ⟨p', hp, hpa, hr⟩ := ih (n + 1) (if lands n then m.writeByte x.toNat b else m)
    · by_cases hx : a = x.toNat
      · by_cases hl : lands n = true
        · refine .inr ⟨(x, b), by simp, hx.symm, h.trans ?_⟩
          rw [if_pos hl, hx, Memory.readByte_writeByte_self]
        · refine .inl (h.trans ?_)
          rw [if_neg hl]
      · refine .inl (h.trans ?_)
        split
        · exact Memory.readByte_writeByte_of_ne _ _ hx
        · rfl
    · exact .inr ⟨p', by simp [hp], hpa, hr⟩

@[simp] theorem settleWriteBacks_nil (lands : Nat → Bool) (n : Nat) (m : Memory) : settleWriteBacks lands n [] m = m := rfl

end Sys2Proof.Machine
end

