-- ==== Sys2Proof/Laws/Bytes.lean ====
section
/-!
SUPPORT. Bytes, words and long words: concatenation as arithmetic, the bytes of a concatenation, and what memory
delivers as a long word and as a run of bytes.
-/
namespace Sys2Proof

theorem toNat_append_eq {n m : Nat} (x : BitVec n) (y : BitVec m) :
    (x ++ y).toNat = x.toNat * 2 ^ m + y.toNat := by
  rw [BitVec.toNat_append, ← Nat.shiftLeft_add_eq_or_of_lt y.isLt, Nat.shiftLeft_eq]

theorem toNat_extract_eq {n : Nat} (x : BitVec n) (i k : Nat) : (x.extractLsb' i k).toNat = x.toNat / 2 ^ i % 2 ^ k := by
  simp [BitVec.extractLsb'_toNat, Nat.shiftRight_eq_div_pow]

/-- The bytes of four bytes put together (rule R43). -/
theorem longBytes_append (b0 b1 b2 b3 : Byte) : longBytes (b0 ++ b1 ++ b2 ++ b3) = [b0, b1, b2, b3] := by
  have h0 := b0.isLt
  have h1 := b1.isLt
  have h2 := b2.isLt
  have h3 := b3.isLt
  simp only [longBytes, List.cons.injEq, and_true]
  refine ⟨?_, ?_, ?_, ?_⟩ <;> apply BitVec.eq_of_toNat_eq <;> simp only [toNat_extract_eq, toNat_append_eq] <;> omega

/-- The bytes of two bytes put together (rule R43). -/
theorem wordBytes_append (b0 b1 : Byte) : wordBytes (b0 ++ b1) = [b0, b1] := by
  have h0 := b0.isLt
  have h1 := b1.isLt
  simp only [wordBytes, List.cons.injEq, and_true]
  refine ⟨?_, ?_⟩ <;> apply BitVec.eq_of_toNat_eq <;> simp only [toNat_extract_eq, toNat_append_eq] <;> omega

/-- A word is its two bytes put together. -/
theorem append_wordBytes (w : Word) : (w.extractLsb' 8 8 ++ w.extractLsb' 0 8 : Word) = w := by
  have h := w.isLt
  apply BitVec.eq_of_toNat_eq
  simp only [toNat_extract_eq, toNat_append_eq]
  omega

end Sys2Proof

namespace Sys2Proof.Machine

/-- Where a long word can be read, its four bytes are the bytes found there. -/
theorem Memory.bytesFrom_of_longAt {m : Memory} {a w : Long} (h : m.longAt a = some w) :
    m.bytesFrom a 4 = longBytes w := by
  unfold Memory.longAt at h
  split at h
  · next b0 b1 b2 b3 h0 h1 h2 h3 =>
    cases h
    have e2 : a + 1 + 1 = a + 2 := by rw [BitVec.add_assoc]; rfl
    have e3 : a + 2 + 1 = a + 3 := by rw [BitVec.add_assoc]; rfl
    simp only [Memory.bytesFrom, h0, h1, e2, h2, e3, h3, longBytes_append]
  · cases h

/-- Adding different small numbers to an address gives different addresses. -/
theorem Long.add_ne (a : Long) {i j : Nat} (hi : i < 4) (hj : j < 4) (h : i ≠ j) :
    (a + BitVec.ofNat 32 i).toNat ≠ (a + BitVec.ofNat 32 j).toNat := by
  have := a.isLt
  simp only [BitVec.toNat_add, BitVec.toNat_ofNat]
  omega

/-- A long word written is found as its bytes. -/
theorem Memory.bytesFrom_writeLong (m : Memory) (a w : Long) : (m.writeLong a w).bytesFrom a 4 = longBytes w := by
  have e2 : a + 1 + 1 = a + 2 := by rw [BitVec.add_assoc]; rfl
  have e3 : a + 2 + 1 = a + 3 := by rw [BitVec.add_assoc]; rfl
  have from0 : ∀ j, 0 < j → j < 4 → a.toNat ≠ (a + BitVec.ofNat 32 j).toNat := fun j h0 hj => by
    simpa using Long.add_ne a (i := 0) (by omega) hj (by omega)
  have n01 : a.toNat ≠ (a + 1).toNat := from0 1 (by omega) (by omega)
  have n02 : a.toNat ≠ (a + 2).toNat := from0 2 (by omega) (by omega)
  have n03 : a.toNat ≠ (a + 3).toNat := from0 3 (by omega) (by omega)
  have n12 : (a + 1).toNat ≠ (a + 2).toNat := Long.add_ne a (i := 1) (j := 2) (by omega) (by omega) (by omega)
  have n13 : (a + 1).toNat ≠ (a + 3).toNat := Long.add_ne a (i := 1) (j := 3) (by omega) (by omega) (by omega)
  have n23 : (a + 2).toNat ≠ (a + 3).toNat := Long.add_ne a (i := 2) (j := 3) (by omega) (by omega) (by omega)
  have r0 : (m.writeLong a w).byteAt a = some (w.extractLsb' 24 8) := by
    unfold Memory.byteAt Memory.writeLong
    rw [readByte_writeByte_of_ne _ _ n03, readByte_writeByte_of_ne _ _ n02, readByte_writeByte_of_ne _ _ n01,
      readByte_writeByte_self]
  have r1 : (m.writeLong a w).byteAt (a + 1) = some (w.extractLsb' 16 8) := by
    unfold Memory.byteAt Memory.writeLong
    rw [readByte_writeByte_of_ne _ _ n13, readByte_writeByte_of_ne _ _ n12]
    exact readByte_writeByte_self _ _ _
  have r2 : (m.writeLong a w).byteAt (a + 2) = some (w.extractLsb' 8 8) := by
    unfold Memory.byteAt Memory.writeLong
    rw [readByte_writeByte_of_ne _ _ n23]
    exact readByte_writeByte_self _ _ _
  have r3 : (m.writeLong a w).byteAt (a + 3) = some (w.extractLsb' 0 8) := by
    unfold Memory.byteAt Memory.writeLong
    exact readByte_writeByte_self _ _ _
  simp only [Memory.bytesFrom, r0, r1, e2, r2, e3, r3, longBytes]

end Sys2Proof.Machine
end

