-- ==== Sys2Proof/Laws/State.lean ====
section
/-!
SUPPORT. One lemma per field per named update of the state, each true by rfl, so that no proof unfolds a record update.
-/
namespace Sys2Proof.Machine

section

variable (s : State)

/-! `State.tick` -/

@[simp] theorem State.tick_sr : (s.tick).sr = s.sr := rfl
@[simp] theorem State.tick_vbr : (s.tick).vbr = s.vbr := rfl
@[simp] theorem State.tick_cacr : (s.tick).cacr = s.cacr := rfl
@[simp] theorem State.tick_tc : (s.tick).tc = s.tc := rfl
@[simp] theorem State.tick_ttrs : (s.tick).ttrs = s.ttrs := rfl
@[simp] theorem State.tick_urp : (s.tick).urp = s.urp := rfl
@[simp] theorem State.tick_srp : (s.tick).srp = s.srp := rfl
@[simp] theorem State.tick_mmusr : (s.tick).mmusr = s.mmusr := rfl
@[simp] theorem State.tick_isp : (s.tick).isp = s.isp := rfl
@[simp] theorem State.tick_usp : (s.tick).usp = s.usp := rfl
@[simp] theorem State.tick_msp : (s.tick).msp = s.msp := rfl
@[simp] theorem State.tick_pc : (s.tick).pc = s.pc := rfl
@[simp] theorem State.tick_d : (s.tick).d = s.d := rfl
@[simp] theorem State.tick_a : (s.tick).a = s.a := rfl
@[simp] theorem State.tick_sfc : (s.tick).sfc = s.sfc := rfl
@[simp] theorem State.tick_dfc : (s.tick).dfc = s.dfc := rfl
@[simp] theorem State.tick_fpu : (s.tick).fpu = s.fpu := rfl
@[simp] theorem State.tick_dcache : (s.tick).dcache = s.dcache := rfl
@[simp] theorem State.tick_icache : (s.tick).icache = s.icache := rfl
@[simp] theorem State.tick_atc : (s.tick).atc = s.atc := rfl
@[simp] theorem State.tick_pf : (s.tick).pf = s.pf := rfl
@[simp] theorem State.tick_pipeline : (s.tick).pipeline = s.pipeline := rfl
@[simp] theorem State.tick_shadow : (s.tick).shadow = s.shadow := rfl
@[simp] theorem State.tick_writeBacks : (s.tick).writeBacks = s.writeBacks := rfl
@[simp] theorem State.tick_mem : (s.tick).mem = s.mem := rfl
@[simp] theorem State.tick_rsti : (s.tick).rsti = s.rsti := rfl
@[simp] theorem State.tick_rstiAge : (s.tick).rstiAge = s.rstiAge + 1 := rfl
@[simp] theorem State.tick_rstiLate : (s.tick).rstiLate = s.rstiLate := rfl
@[simp] theorem State.tick_pins : (s.tick).pins = s.pins := rfl
@[simp] theorem State.tick_pinsAtNegation : (s.tick).pinsAtNegation = s.pinsAtNegation := rfl
@[simp] theorem State.tick_bg : (s.tick).bg = s.bg := rfl
@[simp] theorem State.tick_response : (s.tick).response = s.response := rfl
@[simp] theorem State.tick_iackAnswered : (s.tick).iackAnswered = s.iackAnswered := rfl
@[simp] theorem State.tick_mi : (s.tick).mi = s.mi := rfl
@[simp] theorem State.tick_bus : (s.tick).bus = s.bus := rfl
@[simp] theorem State.tick_specialModes : (s.tick).specialModes = s.specialModes := rfl
@[simp] theorem State.tick_vec : (s.tick).vec = s.vec := rfl
@[simp] theorem State.tick_phase : (s.tick).phase = s.phase := rfl
@[simp] theorem State.tick_history : (s.tick).history = s.history := rfl
@[simp] theorem State.tick_clock : (s.tick).clock = s.clock + 1 := rfl
@[simp] theorem State.tick_schedule : (s.tick).schedule = s.schedule := rfl

/-! `State.ticked` -/

@[simp] theorem State.ticked_sr : (s.ticked).sr = s.sr := rfl
@[simp] theorem State.ticked_vbr : (s.ticked).vbr = s.vbr := rfl
@[simp] theorem State.ticked_cacr : (s.ticked).cacr = s.cacr := rfl
@[simp] theorem State.ticked_tc : (s.ticked).tc = s.tc := rfl
@[simp] theorem State.ticked_ttrs : (s.ticked).ttrs = s.ttrs := rfl
@[simp] theorem State.ticked_urp : (s.ticked).urp = s.urp := rfl
@[simp] theorem State.ticked_srp : (s.ticked).srp = s.srp := rfl
@[simp] theorem State.ticked_mmusr : (s.ticked).mmusr = s.mmusr := rfl
@[simp] theorem State.ticked_isp : (s.ticked).isp = s.isp := rfl
@[simp] theorem State.ticked_usp : (s.ticked).usp = s.usp := rfl
@[simp] theorem State.ticked_msp : (s.ticked).msp = s.msp := rfl
@[simp] theorem State.ticked_pc : (s.ticked).pc = s.pc := rfl
@[simp] theorem State.ticked_d : (s.ticked).d = s.d := rfl
@[simp] theorem State.ticked_a : (s.ticked).a = s.a := rfl
@[simp] theorem State.ticked_sfc : (s.ticked).sfc = s.sfc := rfl
@[simp] theorem State.ticked_dfc : (s.ticked).dfc = s.dfc := rfl
@[simp] theorem State.ticked_fpu : (s.ticked).fpu = s.fpu := rfl
@[simp] theorem State.ticked_dcache : (s.ticked).dcache = s.dcache := rfl
@[simp] theorem State.ticked_icache : (s.ticked).icache = s.icache := rfl
@[simp] theorem State.ticked_atc : (s.ticked).atc = s.atc := rfl
@[simp] theorem State.ticked_pf : (s.ticked).pf = s.pf := rfl
@[simp] theorem State.ticked_pipeline : (s.ticked).pipeline = s.pipeline := rfl
@[simp] theorem State.ticked_shadow : (s.ticked).shadow = s.shadow := rfl
@[simp] theorem State.ticked_writeBacks : (s.ticked).writeBacks = s.writeBacks := rfl
@[simp] theorem State.ticked_mem : (s.ticked).mem = s.mem := rfl
@[simp] theorem State.ticked_rsti : (s.ticked).rsti = s.rsti := rfl
@[simp] theorem State.ticked_rstiAge : (s.ticked).rstiAge = s.rstiAge + 1 := rfl
@[simp] theorem State.ticked_rstiLate : (s.ticked).rstiLate = s.rstiLate := rfl
@[simp] theorem State.ticked_pins : (s.ticked).pins = s.pins := rfl
@[simp] theorem State.ticked_pinsAtNegation : (s.ticked).pinsAtNegation = s.pinsAtNegation := rfl
@[simp] theorem State.ticked_bg : (s.ticked).bg = s.bg := rfl
@[simp] theorem State.ticked_response : (s.ticked).response = s.response := rfl
@[simp] theorem State.ticked_iackAnswered : (s.ticked).iackAnswered = s.iackAnswered := rfl
@[simp] theorem State.ticked_mi : (s.ticked).mi = s.mi := rfl
@[simp] theorem State.ticked_bus : (s.ticked).bus = s.bus := rfl
@[simp] theorem State.ticked_specialModes : (s.ticked).specialModes = s.specialModes := rfl
@[simp] theorem State.ticked_vec : (s.ticked).vec = s.vec := rfl
@[simp] theorem State.ticked_phase : (s.ticked).phase = s.phase := rfl
@[simp] theorem State.ticked_history : (s.ticked).history = s.history := rfl
@[simp] theorem State.ticked_clock : (s.ticked).clock = s.clock + 1 := rfl
@[simp] theorem State.ticked_schedule : (s.ticked).schedule = s.schedule.tail := rfl

/-! `State.abandon` -/

@[simp] theorem State.abandon_sr : (s.abandon).sr = s.sr := rfl
@[simp] theorem State.abandon_vbr : (s.abandon).vbr = s.vbr := rfl
@[simp] theorem State.abandon_cacr : (s.abandon).cacr = s.cacr := rfl
@[simp] theorem State.abandon_tc : (s.abandon).tc = s.tc := rfl
@[simp] theorem State.abandon_ttrs : (s.abandon).ttrs = s.ttrs := rfl
@[simp] theorem State.abandon_urp : (s.abandon).urp = s.urp := rfl
@[simp] theorem State.abandon_srp : (s.abandon).srp = s.srp := rfl
@[simp] theorem State.abandon_mmusr : (s.abandon).mmusr = s.mmusr := rfl
@[simp] theorem State.abandon_isp : (s.abandon).isp = s.isp := rfl
@[simp] theorem State.abandon_usp : (s.abandon).usp = s.usp := rfl
@[simp] theorem State.abandon_msp : (s.abandon).msp = s.msp := rfl
@[simp] theorem State.abandon_pc : (s.abandon).pc = s.pc := rfl
@[simp] theorem State.abandon_d : (s.abandon).d = s.d := rfl
@[simp] theorem State.abandon_a : (s.abandon).a = s.a := rfl
@[simp] theorem State.abandon_sfc : (s.abandon).sfc = s.sfc := rfl
@[simp] theorem State.abandon_dfc : (s.abandon).dfc = s.dfc := rfl
@[simp] theorem State.abandon_fpu : (s.abandon).fpu = s.fpu := rfl
@[simp] theorem State.abandon_dcache : (s.abandon).dcache = s.dcache := rfl
@[simp] theorem State.abandon_icache : (s.abandon).icache = s.icache := rfl
@[simp] theorem State.abandon_atc : (s.abandon).atc = s.atc := rfl
@[simp] theorem State.abandon_pf : (s.abandon).pf = [] := rfl
@[simp] theorem State.abandon_pipeline : (s.abandon).pipeline = [] := rfl
@[simp] theorem State.abandon_shadow : (s.abandon).shadow = [] := rfl
@[simp] theorem State.abandon_writeBacks : (s.abandon).writeBacks = [] := rfl
@[simp] theorem State.abandon_mem : (s.abandon).mem = settleWriteBacks (Config.writeBackLands s.clock) 0 s.writeBacks s.mem := rfl
@[simp] theorem State.abandon_rsti : (s.abandon).rsti = s.rsti := rfl
@[simp] theorem State.abandon_rstiAge : (s.abandon).rstiAge = s.rstiAge := rfl
@[simp] theorem State.abandon_rstiLate : (s.abandon).rstiLate = s.rstiLate := rfl
@[simp] theorem State.abandon_pins : (s.abandon).pins = s.pins := rfl
@[simp] theorem State.abandon_pinsAtNegation : (s.abandon).pinsAtNegation = s.pinsAtNegation := rfl
@[simp] theorem State.abandon_bg : (s.abandon).bg = s.bg := rfl
@[simp] theorem State.abandon_response : (s.abandon).response = s.response := rfl
@[simp] theorem State.abandon_iackAnswered : (s.abandon).iackAnswered = s.iackAnswered := rfl
@[simp] theorem State.abandon_mi : (s.abandon).mi = .heldByReset := rfl
@[simp] theorem State.abandon_bus : (s.abandon).bus = .quiet := rfl
@[simp] theorem State.abandon_specialModes : (s.abandon).specialModes = s.specialModes := rfl
@[simp] theorem State.abandon_vec : (s.abandon).vec = s.vec := rfl
@[simp] theorem State.abandon_phase : (s.abandon).phase = .asserted := rfl
@[simp] theorem State.abandon_history : (s.abandon).history = [] := rfl
@[simp] theorem State.abandon_clock : (s.abandon).clock = s.clock := rfl
@[simp] theorem State.abandon_schedule : (s.abandon).schedule = s.schedule := rfl

/-! `State.beginHold` -/

@[simp] theorem State.beginHold_sr : (s.beginHold).sr = s.sr := rfl
@[simp] theorem State.beginHold_vbr : (s.beginHold).vbr = s.vbr := rfl
@[simp] theorem State.beginHold_cacr : (s.beginHold).cacr = s.cacr := rfl
@[simp] theorem State.beginHold_tc : (s.beginHold).tc = s.tc := rfl
@[simp] theorem State.beginHold_ttrs : (s.beginHold).ttrs = s.ttrs := rfl
@[simp] theorem State.beginHold_urp : (s.beginHold).urp = s.urp := rfl
@[simp] theorem State.beginHold_srp : (s.beginHold).srp = s.srp := rfl
@[simp] theorem State.beginHold_mmusr : (s.beginHold).mmusr = s.mmusr := rfl
@[simp] theorem State.beginHold_isp : (s.beginHold).isp = s.isp := rfl
@[simp] theorem State.beginHold_usp : (s.beginHold).usp = s.usp := rfl
@[simp] theorem State.beginHold_msp : (s.beginHold).msp = s.msp := rfl
@[simp] theorem State.beginHold_pc : (s.beginHold).pc = s.pc := rfl
@[simp] theorem State.beginHold_d : (s.beginHold).d = s.d := rfl
@[simp] theorem State.beginHold_a : (s.beginHold).a = s.a := rfl
@[simp] theorem State.beginHold_sfc : (s.beginHold).sfc = s.sfc := rfl
@[simp] theorem State.beginHold_dfc : (s.beginHold).dfc = s.dfc := rfl
@[simp] theorem State.beginHold_fpu : (s.beginHold).fpu = s.fpu := rfl
@[simp] theorem State.beginHold_dcache : (s.beginHold).dcache = s.dcache := rfl
@[simp] theorem State.beginHold_icache : (s.beginHold).icache = s.icache := rfl
@[simp] theorem State.beginHold_atc : (s.beginHold).atc = s.atc := rfl
@[simp] theorem State.beginHold_pf : (s.beginHold).pf = s.pf := rfl
@[simp] theorem State.beginHold_pipeline : (s.beginHold).pipeline = s.pipeline := rfl
@[simp] theorem State.beginHold_shadow : (s.beginHold).shadow = s.shadow := rfl
@[simp] theorem State.beginHold_writeBacks : (s.beginHold).writeBacks = s.writeBacks := rfl
@[simp] theorem State.beginHold_mem : (s.beginHold).mem = s.mem := rfl
@[simp] theorem State.beginHold_rsti : (s.beginHold).rsti = s.rsti := rfl
@[simp] theorem State.beginHold_rstiAge : (s.beginHold).rstiAge = s.rstiAge := rfl
@[simp] theorem State.beginHold_rstiLate : (s.beginHold).rstiLate = s.rstiLate := rfl
@[simp] theorem State.beginHold_pins : (s.beginHold).pins = s.pins := rfl
@[simp] theorem State.beginHold_pinsAtNegation : (s.beginHold).pinsAtNegation = s.pinsAtNegation := rfl
@[simp] theorem State.beginHold_bg : (s.beginHold).bg = s.bg := rfl
@[simp] theorem State.beginHold_response : (s.beginHold).response = s.response := rfl
@[simp] theorem State.beginHold_iackAnswered : (s.beginHold).iackAnswered = s.iackAnswered := rfl
@[simp] theorem State.beginHold_mi : (s.beginHold).mi = s.mi := rfl
@[simp] theorem State.beginHold_bus : (s.beginHold).bus = s.bus := rfl
@[simp] theorem State.beginHold_specialModes : (s.beginHold).specialModes = s.pinsAtNegation := rfl
@[simp] theorem State.beginHold_vec : (s.beginHold).vec = s.vec := rfl
@[simp] theorem State.beginHold_phase : (s.beginHold).phase = .hold Config.tHold := rfl
@[simp] theorem State.beginHold_history : (s.beginHold).history = s.history := rfl
@[simp] theorem State.beginHold_clock : (s.beginHold).clock = s.clock := rfl
@[simp] theorem State.beginHold_schedule : (s.beginHold).schedule = s.schedule := rfl

/-! `State.endHold` -/

@[simp] theorem State.endHold_sr : (s.endHold).sr = s.sr.enterReset := rfl
@[simp] theorem State.endHold_vbr : (s.endHold).vbr = 0#32 := rfl
@[simp] theorem State.endHold_cacr : (s.endHold).cacr = { s.cacr with de := false, ie := false } := rfl
@[simp] theorem State.endHold_tc : (s.endHold).tc = { s.tc with e := false } := rfl
@[simp] theorem State.endHold_ttrs : (s.endHold).ttrs = s.ttrs.disable := rfl
@[simp] theorem State.endHold_urp : (s.endHold).urp = s.urp := rfl
@[simp] theorem State.endHold_srp : (s.endHold).srp = s.srp := rfl
@[simp] theorem State.endHold_mmusr : (s.endHold).mmusr = s.mmusr := rfl
@[simp] theorem State.endHold_isp : (s.endHold).isp = s.isp := rfl
@[simp] theorem State.endHold_usp : (s.endHold).usp = s.usp := rfl
@[simp] theorem State.endHold_msp : (s.endHold).msp = s.msp := rfl
@[simp] theorem State.endHold_pc : (s.endHold).pc = s.pc := rfl
@[simp] theorem State.endHold_d : (s.endHold).d = s.d := rfl
@[simp] theorem State.endHold_a : (s.endHold).a = s.a := rfl
@[simp] theorem State.endHold_sfc : (s.endHold).sfc = s.sfc := rfl
@[simp] theorem State.endHold_dfc : (s.endHold).dfc = s.dfc := rfl
@[simp] theorem State.endHold_fpu : (s.endHold).fpu = s.fpu := rfl
@[simp] theorem State.endHold_dcache : (s.endHold).dcache = s.dcache := rfl
@[simp] theorem State.endHold_icache : (s.endHold).icache = s.icache := rfl
@[simp] theorem State.endHold_atc : (s.endHold).atc = s.atc := rfl
@[simp] theorem State.endHold_pf : (s.endHold).pf = s.pf := rfl
@[simp] theorem State.endHold_pipeline : (s.endHold).pipeline = s.pipeline := rfl
@[simp] theorem State.endHold_shadow : (s.endHold).shadow = s.shadow := rfl
@[simp] theorem State.endHold_writeBacks : (s.endHold).writeBacks = s.writeBacks := rfl
@[simp] theorem State.endHold_mem : (s.endHold).mem = s.mem := rfl
@[simp] theorem State.endHold_rsti : (s.endHold).rsti = s.rsti := rfl
@[simp] theorem State.endHold_rstiAge : (s.endHold).rstiAge = s.rstiAge := rfl
@[simp] theorem State.endHold_rstiLate : (s.endHold).rstiLate = s.rstiLate := rfl
@[simp] theorem State.endHold_pins : (s.endHold).pins = s.pins := rfl
@[simp] theorem State.endHold_pinsAtNegation : (s.endHold).pinsAtNegation = s.pinsAtNegation := rfl
@[simp] theorem State.endHold_bg : (s.endHold).bg = s.bg := rfl
@[simp] theorem State.endHold_response : (s.endHold).response = s.response := rfl
@[simp] theorem State.endHold_iackAnswered : (s.endHold).iackAnswered = s.iackAnswered := rfl
@[simp] theorem State.endHold_mi : (s.endHold).mi = .ordinary := rfl
@[simp] theorem State.endHold_bus : (s.endHold).bus = .highImpedance := rfl
@[simp] theorem State.endHold_specialModes : (s.endHold).specialModes = s.specialModes := rfl
@[simp] theorem State.endHold_vec : (s.endHold).vec = s.vec := rfl
@[simp] theorem State.endHold_phase : (s.endHold).phase = .awaitBus := rfl
@[simp] theorem State.endHold_history : (s.endHold).history = s.history := rfl
@[simp] theorem State.endHold_clock : (s.endHold).clock = s.clock := rfl
@[simp] theorem State.endHold_schedule : (s.endHold).schedule = s.schedule := rfl

/-! `State.takeOwnership` -/

@[simp] theorem State.takeOwnership_sr : (s.takeOwnership).sr = s.sr := rfl
@[simp] theorem State.takeOwnership_vbr : (s.takeOwnership).vbr = s.vbr := rfl
@[simp] theorem State.takeOwnership_cacr : (s.takeOwnership).cacr = s.cacr := rfl
@[simp] theorem State.takeOwnership_tc : (s.takeOwnership).tc = s.tc := rfl
@[simp] theorem State.takeOwnership_ttrs : (s.takeOwnership).ttrs = s.ttrs := rfl
@[simp] theorem State.takeOwnership_urp : (s.takeOwnership).urp = s.urp := rfl
@[simp] theorem State.takeOwnership_srp : (s.takeOwnership).srp = s.srp := rfl
@[simp] theorem State.takeOwnership_mmusr : (s.takeOwnership).mmusr = s.mmusr := rfl
@[simp] theorem State.takeOwnership_isp : (s.takeOwnership).isp = s.isp := rfl
@[simp] theorem State.takeOwnership_usp : (s.takeOwnership).usp = s.usp := rfl
@[simp] theorem State.takeOwnership_msp : (s.takeOwnership).msp = s.msp := rfl
@[simp] theorem State.takeOwnership_pc : (s.takeOwnership).pc = s.pc := rfl
@[simp] theorem State.takeOwnership_d : (s.takeOwnership).d = s.d := rfl
@[simp] theorem State.takeOwnership_a : (s.takeOwnership).a = s.a := rfl
@[simp] theorem State.takeOwnership_sfc : (s.takeOwnership).sfc = s.sfc := rfl
@[simp] theorem State.takeOwnership_dfc : (s.takeOwnership).dfc = s.dfc := rfl
@[simp] theorem State.takeOwnership_fpu : (s.takeOwnership).fpu = s.fpu := rfl
@[simp] theorem State.takeOwnership_dcache : (s.takeOwnership).dcache = s.dcache := rfl
@[simp] theorem State.takeOwnership_icache : (s.takeOwnership).icache = s.icache := rfl
@[simp] theorem State.takeOwnership_atc : (s.takeOwnership).atc = s.atc := rfl
@[simp] theorem State.takeOwnership_pf : (s.takeOwnership).pf = s.pf := rfl
@[simp] theorem State.takeOwnership_pipeline : (s.takeOwnership).pipeline = s.pipeline := rfl
@[simp] theorem State.takeOwnership_shadow : (s.takeOwnership).shadow = s.shadow := rfl
@[simp] theorem State.takeOwnership_writeBacks : (s.takeOwnership).writeBacks = s.writeBacks := rfl
@[simp] theorem State.takeOwnership_mem : (s.takeOwnership).mem = s.mem := rfl
@[simp] theorem State.takeOwnership_rsti : (s.takeOwnership).rsti = s.rsti := rfl
@[simp] theorem State.takeOwnership_rstiAge : (s.takeOwnership).rstiAge = s.rstiAge := rfl
@[simp] theorem State.takeOwnership_rstiLate : (s.takeOwnership).rstiLate = s.rstiLate := rfl
@[simp] theorem State.takeOwnership_pins : (s.takeOwnership).pins = s.pins := rfl
@[simp] theorem State.takeOwnership_pinsAtNegation : (s.takeOwnership).pinsAtNegation = s.pinsAtNegation := rfl
@[simp] theorem State.takeOwnership_bg : (s.takeOwnership).bg = s.bg := rfl
@[simp] theorem State.takeOwnership_response : (s.takeOwnership).response = s.response := rfl
@[simp] theorem State.takeOwnership_iackAnswered : (s.takeOwnership).iackAnswered = s.iackAnswered := rfl
@[simp] theorem State.takeOwnership_mi : (s.takeOwnership).mi = s.mi := rfl
@[simp] theorem State.takeOwnership_bus : (s.takeOwnership).bus = .implicitOwnership := rfl
@[simp] theorem State.takeOwnership_specialModes : (s.takeOwnership).specialModes = s.specialModes := rfl
@[simp] theorem State.takeOwnership_vec : (s.takeOwnership).vec = s.vec := rfl
@[simp] theorem State.takeOwnership_phase : (s.takeOwnership).phase = .processing .iack := rfl
@[simp] theorem State.takeOwnership_history : (s.takeOwnership).history = s.history := rfl
@[simp] theorem State.takeOwnership_clock : (s.takeOwnership).clock = s.clock := rfl
@[simp] theorem State.takeOwnership_schedule : (s.takeOwnership).schedule = s.schedule := rfl

/-! `State.acknowledge` -/

@[simp] theorem State.acknowledge_sr : (s.acknowledge).sr = s.sr := rfl
@[simp] theorem State.acknowledge_vbr : (s.acknowledge).vbr = s.vbr := rfl
@[simp] theorem State.acknowledge_cacr : (s.acknowledge).cacr = s.cacr := rfl
@[simp] theorem State.acknowledge_tc : (s.acknowledge).tc = s.tc := rfl
@[simp] theorem State.acknowledge_ttrs : (s.acknowledge).ttrs = s.ttrs := rfl
@[simp] theorem State.acknowledge_urp : (s.acknowledge).urp = s.urp := rfl
@[simp] theorem State.acknowledge_srp : (s.acknowledge).srp = s.srp := rfl
@[simp] theorem State.acknowledge_mmusr : (s.acknowledge).mmusr = s.mmusr := rfl
@[simp] theorem State.acknowledge_isp : (s.acknowledge).isp = s.isp := rfl
@[simp] theorem State.acknowledge_usp : (s.acknowledge).usp = s.usp := rfl
@[simp] theorem State.acknowledge_msp : (s.acknowledge).msp = s.msp := rfl
@[simp] theorem State.acknowledge_pc : (s.acknowledge).pc = s.pc := rfl
@[simp] theorem State.acknowledge_d : (s.acknowledge).d = s.d := rfl
@[simp] theorem State.acknowledge_a : (s.acknowledge).a = s.a := rfl
@[simp] theorem State.acknowledge_sfc : (s.acknowledge).sfc = s.sfc := rfl
@[simp] theorem State.acknowledge_dfc : (s.acknowledge).dfc = s.dfc := rfl
@[simp] theorem State.acknowledge_fpu : (s.acknowledge).fpu = s.fpu := rfl
@[simp] theorem State.acknowledge_dcache : (s.acknowledge).dcache = s.dcache := rfl
@[simp] theorem State.acknowledge_icache : (s.acknowledge).icache = s.icache := rfl
@[simp] theorem State.acknowledge_atc : (s.acknowledge).atc = s.atc := rfl
@[simp] theorem State.acknowledge_pf : (s.acknowledge).pf = s.pf := rfl
@[simp] theorem State.acknowledge_pipeline : (s.acknowledge).pipeline = s.pipeline := rfl
@[simp] theorem State.acknowledge_shadow : (s.acknowledge).shadow = s.shadow := rfl
@[simp] theorem State.acknowledge_writeBacks : (s.acknowledge).writeBacks = s.writeBacks := rfl
@[simp] theorem State.acknowledge_mem : (s.acknowledge).mem = s.mem := rfl
@[simp] theorem State.acknowledge_rsti : (s.acknowledge).rsti = s.rsti := rfl
@[simp] theorem State.acknowledge_rstiAge : (s.acknowledge).rstiAge = s.rstiAge := rfl
@[simp] theorem State.acknowledge_rstiLate : (s.acknowledge).rstiLate = s.rstiLate := rfl
@[simp] theorem State.acknowledge_pins : (s.acknowledge).pins = s.pins := rfl
@[simp] theorem State.acknowledge_pinsAtNegation : (s.acknowledge).pinsAtNegation = s.pinsAtNegation := rfl
@[simp] theorem State.acknowledge_bg : (s.acknowledge).bg = s.bg := rfl
@[simp] theorem State.acknowledge_response : (s.acknowledge).response = s.response := rfl
@[simp] theorem State.acknowledge_iackAnswered : (s.acknowledge).iackAnswered = s.iackAnswered := rfl
@[simp] theorem State.acknowledge_mi : (s.acknowledge).mi = s.mi := rfl
@[simp] theorem State.acknowledge_bus : (s.acknowledge).bus = if s.iackAnswered then .implicitOwnership else .iackCycle := rfl
@[simp] theorem State.acknowledge_specialModes : (s.acknowledge).specialModes = s.specialModes := rfl
@[simp] theorem State.acknowledge_vec : (s.acknowledge).vec = 0 := rfl
@[simp] theorem State.acknowledge_phase : (s.acknowledge).phase = .processing .vector0 := rfl
@[simp] theorem State.acknowledge_history : (s.acknowledge).history = s.history ++ [.iackCycle] := rfl
@[simp] theorem State.acknowledge_clock : (s.acknowledge).clock = s.clock := rfl
@[simp] theorem State.acknowledge_schedule : (s.acknowledge).schedule = s.schedule := rfl

/-! `State.loadVector` -/

@[simp] theorem State.loadVector_sr (v0 v1 : Long) : (s.loadVector v0 v1).sr = s.sr := rfl
@[simp] theorem State.loadVector_vbr (v0 v1 : Long) : (s.loadVector v0 v1).vbr = s.vbr := rfl
@[simp] theorem State.loadVector_cacr (v0 v1 : Long) : (s.loadVector v0 v1).cacr = s.cacr := rfl
@[simp] theorem State.loadVector_tc (v0 v1 : Long) : (s.loadVector v0 v1).tc = s.tc := rfl
@[simp] theorem State.loadVector_ttrs (v0 v1 : Long) : (s.loadVector v0 v1).ttrs = s.ttrs := rfl
@[simp] theorem State.loadVector_urp (v0 v1 : Long) : (s.loadVector v0 v1).urp = s.urp := rfl
@[simp] theorem State.loadVector_srp (v0 v1 : Long) : (s.loadVector v0 v1).srp = s.srp := rfl
@[simp] theorem State.loadVector_mmusr (v0 v1 : Long) : (s.loadVector v0 v1).mmusr = s.mmusr := rfl
@[simp] theorem State.loadVector_isp (v0 v1 : Long) : (s.loadVector v0 v1).isp = v0 := rfl
@[simp] theorem State.loadVector_usp (v0 v1 : Long) : (s.loadVector v0 v1).usp = s.usp := rfl
@[simp] theorem State.loadVector_msp (v0 v1 : Long) : (s.loadVector v0 v1).msp = s.msp := rfl
@[simp] theorem State.loadVector_pc (v0 v1 : Long) : (s.loadVector v0 v1).pc = v1 := rfl
@[simp] theorem State.loadVector_d (v0 v1 : Long) : (s.loadVector v0 v1).d = s.d := rfl
@[simp] theorem State.loadVector_a (v0 v1 : Long) : (s.loadVector v0 v1).a = s.a := rfl
@[simp] theorem State.loadVector_sfc (v0 v1 : Long) : (s.loadVector v0 v1).sfc = s.sfc := rfl
@[simp] theorem State.loadVector_dfc (v0 v1 : Long) : (s.loadVector v0 v1).dfc = s.dfc := rfl
@[simp] theorem State.loadVector_fpu (v0 v1 : Long) : (s.loadVector v0 v1).fpu = s.fpu := rfl
@[simp] theorem State.loadVector_dcache (v0 v1 : Long) : (s.loadVector v0 v1).dcache = s.dcache := rfl
@[simp] theorem State.loadVector_icache (v0 v1 : Long) : (s.loadVector v0 v1).icache = s.icache := rfl
@[simp] theorem State.loadVector_atc (v0 v1 : Long) : (s.loadVector v0 v1).atc = s.atc := rfl
@[simp] theorem State.loadVector_pf (v0 v1 : Long) : (s.loadVector v0 v1).pf = s.pf := rfl
@[simp] theorem State.loadVector_pipeline (v0 v1 : Long) : (s.loadVector v0 v1).pipeline = s.pipeline := rfl
@[simp] theorem State.loadVector_shadow (v0 v1 : Long) : (s.loadVector v0 v1).shadow = s.shadow := rfl
@[simp] theorem State.loadVector_writeBacks (v0 v1 : Long) : (s.loadVector v0 v1).writeBacks = s.writeBacks := rfl
@[simp] theorem State.loadVector_mem (v0 v1 : Long) : (s.loadVector v0 v1).mem = s.mem := rfl
@[simp] theorem State.loadVector_rsti (v0 v1 : Long) : (s.loadVector v0 v1).rsti = s.rsti := rfl
@[simp] theorem State.loadVector_rstiAge (v0 v1 : Long) : (s.loadVector v0 v1).rstiAge = s.rstiAge := rfl
@[simp] theorem State.loadVector_rstiLate (v0 v1 : Long) : (s.loadVector v0 v1).rstiLate = s.rstiLate := rfl
@[simp] theorem State.loadVector_pins (v0 v1 : Long) : (s.loadVector v0 v1).pins = s.pins := rfl
@[simp] theorem State.loadVector_pinsAtNegation (v0 v1 : Long) : (s.loadVector v0 v1).pinsAtNegation = s.pinsAtNegation := rfl
@[simp] theorem State.loadVector_bg (v0 v1 : Long) : (s.loadVector v0 v1).bg = s.bg := rfl
@[simp] theorem State.loadVector_response (v0 v1 : Long) : (s.loadVector v0 v1).response = s.response := rfl
@[simp] theorem State.loadVector_iackAnswered (v0 v1 : Long) : (s.loadVector v0 v1).iackAnswered = s.iackAnswered := rfl
@[simp] theorem State.loadVector_mi (v0 v1 : Long) : (s.loadVector v0 v1).mi = s.mi := rfl
@[simp] theorem State.loadVector_bus (v0 v1 : Long) : (s.loadVector v0 v1).bus = s.bus := rfl
@[simp] theorem State.loadVector_specialModes (v0 v1 : Long) : (s.loadVector v0 v1).specialModes = s.specialModes := rfl
@[simp] theorem State.loadVector_vec (v0 v1 : Long) : (s.loadVector v0 v1).vec = s.vec := rfl
@[simp] theorem State.loadVector_phase (v0 v1 : Long) : (s.loadVector v0 v1).phase = if v1.getLsbD 0 then .faulted (.resetOddPc v1) else .processing (.prefetch 0) := rfl
@[simp] theorem State.loadVector_history (v0 v1 : Long) : (s.loadVector v0 v1).history = s.history := rfl
@[simp] theorem State.loadVector_clock (v0 v1 : Long) : (s.loadVector v0 v1).clock = s.clock := rfl
@[simp] theorem State.loadVector_schedule (v0 v1 : Long) : (s.loadVector v0 v1).schedule = s.schedule := rfl

/-! `State.awaitAcknowledge` -/

@[simp] theorem State.awaitAcknowledge_sr : (s.awaitAcknowledge).sr = s.sr := rfl
@[simp] theorem State.awaitAcknowledge_vbr : (s.awaitAcknowledge).vbr = s.vbr := rfl
@[simp] theorem State.awaitAcknowledge_cacr : (s.awaitAcknowledge).cacr = s.cacr := rfl
@[simp] theorem State.awaitAcknowledge_tc : (s.awaitAcknowledge).tc = s.tc := rfl
@[simp] theorem State.awaitAcknowledge_ttrs : (s.awaitAcknowledge).ttrs = s.ttrs := rfl
@[simp] theorem State.awaitAcknowledge_urp : (s.awaitAcknowledge).urp = s.urp := rfl
@[simp] theorem State.awaitAcknowledge_srp : (s.awaitAcknowledge).srp = s.srp := rfl
@[simp] theorem State.awaitAcknowledge_mmusr : (s.awaitAcknowledge).mmusr = s.mmusr := rfl
@[simp] theorem State.awaitAcknowledge_isp : (s.awaitAcknowledge).isp = s.isp := rfl
@[simp] theorem State.awaitAcknowledge_usp : (s.awaitAcknowledge).usp = s.usp := rfl
@[simp] theorem State.awaitAcknowledge_msp : (s.awaitAcknowledge).msp = s.msp := rfl
@[simp] theorem State.awaitAcknowledge_pc : (s.awaitAcknowledge).pc = s.pc := rfl
@[simp] theorem State.awaitAcknowledge_d : (s.awaitAcknowledge).d = s.d := rfl
@[simp] theorem State.awaitAcknowledge_a : (s.awaitAcknowledge).a = s.a := rfl
@[simp] theorem State.awaitAcknowledge_sfc : (s.awaitAcknowledge).sfc = s.sfc := rfl
@[simp] theorem State.awaitAcknowledge_dfc : (s.awaitAcknowledge).dfc = s.dfc := rfl
@[simp] theorem State.awaitAcknowledge_fpu : (s.awaitAcknowledge).fpu = s.fpu := rfl
@[simp] theorem State.awaitAcknowledge_dcache : (s.awaitAcknowledge).dcache = s.dcache := rfl
@[simp] theorem State.awaitAcknowledge_icache : (s.awaitAcknowledge).icache = s.icache := rfl
@[simp] theorem State.awaitAcknowledge_atc : (s.awaitAcknowledge).atc = s.atc := rfl
@[simp] theorem State.awaitAcknowledge_pf : (s.awaitAcknowledge).pf = s.pf := rfl
@[simp] theorem State.awaitAcknowledge_pipeline : (s.awaitAcknowledge).pipeline = s.pipeline := rfl
@[simp] theorem State.awaitAcknowledge_shadow : (s.awaitAcknowledge).shadow = s.shadow := rfl
@[simp] theorem State.awaitAcknowledge_writeBacks : (s.awaitAcknowledge).writeBacks = s.writeBacks := rfl
@[simp] theorem State.awaitAcknowledge_mem : (s.awaitAcknowledge).mem = s.mem := rfl
@[simp] theorem State.awaitAcknowledge_rsti : (s.awaitAcknowledge).rsti = s.rsti := rfl
@[simp] theorem State.awaitAcknowledge_rstiAge : (s.awaitAcknowledge).rstiAge = s.rstiAge := rfl
@[simp] theorem State.awaitAcknowledge_rstiLate : (s.awaitAcknowledge).rstiLate = s.rstiLate := rfl
@[simp] theorem State.awaitAcknowledge_pins : (s.awaitAcknowledge).pins = s.pins := rfl
@[simp] theorem State.awaitAcknowledge_pinsAtNegation : (s.awaitAcknowledge).pinsAtNegation = s.pinsAtNegation := rfl
@[simp] theorem State.awaitAcknowledge_bg : (s.awaitAcknowledge).bg = s.bg := rfl
@[simp] theorem State.awaitAcknowledge_response : (s.awaitAcknowledge).response = s.response := rfl
@[simp] theorem State.awaitAcknowledge_iackAnswered : (s.awaitAcknowledge).iackAnswered = s.iackAnswered := rfl
@[simp] theorem State.awaitAcknowledge_mi : (s.awaitAcknowledge).mi = s.mi := rfl
@[simp] theorem State.awaitAcknowledge_bus : (s.awaitAcknowledge).bus = if s.iackAnswered then .implicitOwnership else s.bus := rfl
@[simp] theorem State.awaitAcknowledge_specialModes : (s.awaitAcknowledge).specialModes = s.specialModes := rfl
@[simp] theorem State.awaitAcknowledge_vec : (s.awaitAcknowledge).vec = s.vec := rfl
@[simp] theorem State.awaitAcknowledge_phase : (s.awaitAcknowledge).phase = s.phase := rfl
@[simp] theorem State.awaitAcknowledge_history : (s.awaitAcknowledge).history = s.history := rfl
@[simp] theorem State.awaitAcknowledge_clock : (s.awaitAcknowledge).clock = s.clock := rfl
@[simp] theorem State.awaitAcknowledge_schedule : (s.awaitAcknowledge).schedule = s.schedule := rfl

/-! `State.endTransfer` -/

@[simp] theorem State.endTransfer_sr : (s.endTransfer).sr = s.sr := rfl
@[simp] theorem State.endTransfer_vbr : (s.endTransfer).vbr = s.vbr := rfl
@[simp] theorem State.endTransfer_cacr : (s.endTransfer).cacr = s.cacr := rfl
@[simp] theorem State.endTransfer_tc : (s.endTransfer).tc = s.tc := rfl
@[simp] theorem State.endTransfer_ttrs : (s.endTransfer).ttrs = s.ttrs := rfl
@[simp] theorem State.endTransfer_urp : (s.endTransfer).urp = s.urp := rfl
@[simp] theorem State.endTransfer_srp : (s.endTransfer).srp = s.srp := rfl
@[simp] theorem State.endTransfer_mmusr : (s.endTransfer).mmusr = s.mmusr := rfl
@[simp] theorem State.endTransfer_isp : (s.endTransfer).isp = s.isp := rfl
@[simp] theorem State.endTransfer_usp : (s.endTransfer).usp = s.usp := rfl
@[simp] theorem State.endTransfer_msp : (s.endTransfer).msp = s.msp := rfl
@[simp] theorem State.endTransfer_pc : (s.endTransfer).pc = s.pc := rfl
@[simp] theorem State.endTransfer_d : (s.endTransfer).d = s.d := rfl
@[simp] theorem State.endTransfer_a : (s.endTransfer).a = s.a := rfl
@[simp] theorem State.endTransfer_sfc : (s.endTransfer).sfc = s.sfc := rfl
@[simp] theorem State.endTransfer_dfc : (s.endTransfer).dfc = s.dfc := rfl
@[simp] theorem State.endTransfer_fpu : (s.endTransfer).fpu = s.fpu := rfl
@[simp] theorem State.endTransfer_dcache : (s.endTransfer).dcache = s.dcache := rfl
@[simp] theorem State.endTransfer_icache : (s.endTransfer).icache = s.icache := rfl
@[simp] theorem State.endTransfer_atc : (s.endTransfer).atc = s.atc := rfl
@[simp] theorem State.endTransfer_pf : (s.endTransfer).pf = s.pf := rfl
@[simp] theorem State.endTransfer_pipeline : (s.endTransfer).pipeline = s.pipeline := rfl
@[simp] theorem State.endTransfer_shadow : (s.endTransfer).shadow = s.shadow := rfl
@[simp] theorem State.endTransfer_writeBacks : (s.endTransfer).writeBacks = s.writeBacks := rfl
@[simp] theorem State.endTransfer_mem : (s.endTransfer).mem = s.mem := rfl
@[simp] theorem State.endTransfer_rsti : (s.endTransfer).rsti = s.rsti := rfl
@[simp] theorem State.endTransfer_rstiAge : (s.endTransfer).rstiAge = s.rstiAge := rfl
@[simp] theorem State.endTransfer_rstiLate : (s.endTransfer).rstiLate = s.rstiLate := rfl
@[simp] theorem State.endTransfer_pins : (s.endTransfer).pins = s.pins := rfl
@[simp] theorem State.endTransfer_pinsAtNegation : (s.endTransfer).pinsAtNegation = s.pinsAtNegation := rfl
@[simp] theorem State.endTransfer_bg : (s.endTransfer).bg = s.bg := rfl
@[simp] theorem State.endTransfer_response : (s.endTransfer).response = s.response := rfl
@[simp] theorem State.endTransfer_iackAnswered : (s.endTransfer).iackAnswered = s.iackAnswered := rfl
@[simp] theorem State.endTransfer_mi : (s.endTransfer).mi = s.mi := rfl
@[simp] theorem State.endTransfer_bus : (s.endTransfer).bus = .implicitOwnership := rfl
@[simp] theorem State.endTransfer_specialModes : (s.endTransfer).specialModes = s.specialModes := rfl
@[simp] theorem State.endTransfer_vec : (s.endTransfer).vec = s.vec := rfl
@[simp] theorem State.endTransfer_phase : (s.endTransfer).phase = s.phase := rfl
@[simp] theorem State.endTransfer_history : (s.endTransfer).history = s.history := rfl
@[simp] theorem State.endTransfer_clock : (s.endTransfer).clock = s.clock := rfl
@[simp] theorem State.endTransfer_schedule : (s.endTransfer).schedule = s.schedule := rfl

/-! `State.holdTransfer` -/

@[simp] theorem State.holdTransfer_sr (c : ReadCause) (x : Long) : (s.holdTransfer c x).sr = s.sr := rfl
@[simp] theorem State.holdTransfer_vbr (c : ReadCause) (x : Long) : (s.holdTransfer c x).vbr = s.vbr := rfl
@[simp] theorem State.holdTransfer_cacr (c : ReadCause) (x : Long) : (s.holdTransfer c x).cacr = s.cacr := rfl
@[simp] theorem State.holdTransfer_tc (c : ReadCause) (x : Long) : (s.holdTransfer c x).tc = s.tc := rfl
@[simp] theorem State.holdTransfer_ttrs (c : ReadCause) (x : Long) : (s.holdTransfer c x).ttrs = s.ttrs := rfl
@[simp] theorem State.holdTransfer_urp (c : ReadCause) (x : Long) : (s.holdTransfer c x).urp = s.urp := rfl
@[simp] theorem State.holdTransfer_srp (c : ReadCause) (x : Long) : (s.holdTransfer c x).srp = s.srp := rfl
@[simp] theorem State.holdTransfer_mmusr (c : ReadCause) (x : Long) : (s.holdTransfer c x).mmusr = s.mmusr := rfl
@[simp] theorem State.holdTransfer_isp (c : ReadCause) (x : Long) : (s.holdTransfer c x).isp = s.isp := rfl
@[simp] theorem State.holdTransfer_usp (c : ReadCause) (x : Long) : (s.holdTransfer c x).usp = s.usp := rfl
@[simp] theorem State.holdTransfer_msp (c : ReadCause) (x : Long) : (s.holdTransfer c x).msp = s.msp := rfl
@[simp] theorem State.holdTransfer_pc (c : ReadCause) (x : Long) : (s.holdTransfer c x).pc = s.pc := rfl
@[simp] theorem State.holdTransfer_d (c : ReadCause) (x : Long) : (s.holdTransfer c x).d = s.d := rfl
@[simp] theorem State.holdTransfer_a (c : ReadCause) (x : Long) : (s.holdTransfer c x).a = s.a := rfl
@[simp] theorem State.holdTransfer_sfc (c : ReadCause) (x : Long) : (s.holdTransfer c x).sfc = s.sfc := rfl
@[simp] theorem State.holdTransfer_dfc (c : ReadCause) (x : Long) : (s.holdTransfer c x).dfc = s.dfc := rfl
@[simp] theorem State.holdTransfer_fpu (c : ReadCause) (x : Long) : (s.holdTransfer c x).fpu = s.fpu := rfl
@[simp] theorem State.holdTransfer_dcache (c : ReadCause) (x : Long) : (s.holdTransfer c x).dcache = s.dcache := rfl
@[simp] theorem State.holdTransfer_icache (c : ReadCause) (x : Long) : (s.holdTransfer c x).icache = s.icache := rfl
@[simp] theorem State.holdTransfer_atc (c : ReadCause) (x : Long) : (s.holdTransfer c x).atc = s.atc := rfl
@[simp] theorem State.holdTransfer_pf (c : ReadCause) (x : Long) : (s.holdTransfer c x).pf = s.pf := rfl
@[simp] theorem State.holdTransfer_pipeline (c : ReadCause) (x : Long) : (s.holdTransfer c x).pipeline = s.pipeline := rfl
@[simp] theorem State.holdTransfer_shadow (c : ReadCause) (x : Long) : (s.holdTransfer c x).shadow = s.shadow := rfl
@[simp] theorem State.holdTransfer_writeBacks (c : ReadCause) (x : Long) : (s.holdTransfer c x).writeBacks = s.writeBacks := rfl
@[simp] theorem State.holdTransfer_mem (c : ReadCause) (x : Long) : (s.holdTransfer c x).mem = s.mem := rfl
@[simp] theorem State.holdTransfer_rsti (c : ReadCause) (x : Long) : (s.holdTransfer c x).rsti = s.rsti := rfl
@[simp] theorem State.holdTransfer_rstiAge (c : ReadCause) (x : Long) : (s.holdTransfer c x).rstiAge = s.rstiAge := rfl
@[simp] theorem State.holdTransfer_rstiLate (c : ReadCause) (x : Long) : (s.holdTransfer c x).rstiLate = s.rstiLate := rfl
@[simp] theorem State.holdTransfer_pins (c : ReadCause) (x : Long) : (s.holdTransfer c x).pins = s.pins := rfl
@[simp] theorem State.holdTransfer_pinsAtNegation (c : ReadCause) (x : Long) : (s.holdTransfer c x).pinsAtNegation = s.pinsAtNegation := rfl
@[simp] theorem State.holdTransfer_bg (c : ReadCause) (x : Long) : (s.holdTransfer c x).bg = s.bg := rfl
@[simp] theorem State.holdTransfer_response (c : ReadCause) (x : Long) : (s.holdTransfer c x).response = s.response := rfl
@[simp] theorem State.holdTransfer_iackAnswered (c : ReadCause) (x : Long) : (s.holdTransfer c x).iackAnswered = s.iackAnswered := rfl
@[simp] theorem State.holdTransfer_mi (c : ReadCause) (x : Long) : (s.holdTransfer c x).mi = s.mi := rfl
@[simp] theorem State.holdTransfer_bus (c : ReadCause) (x : Long) : (s.holdTransfer c x).bus = s.bus.holdTransfer c x := rfl
@[simp] theorem State.holdTransfer_specialModes (c : ReadCause) (x : Long) : (s.holdTransfer c x).specialModes = s.specialModes := rfl
@[simp] theorem State.holdTransfer_vec (c : ReadCause) (x : Long) : (s.holdTransfer c x).vec = s.vec := rfl
@[simp] theorem State.holdTransfer_phase (c : ReadCause) (x : Long) : (s.holdTransfer c x).phase = s.phase := rfl
@[simp] theorem State.holdTransfer_history (c : ReadCause) (x : Long) : (s.holdTransfer c x).history = s.history := rfl
@[simp] theorem State.holdTransfer_clock (c : ReadCause) (x : Long) : (s.holdTransfer c x).clock = s.clock := rfl
@[simp] theorem State.holdTransfer_schedule (c : ReadCause) (x : Long) : (s.holdTransfer c x).schedule = s.schedule := rfl

/-! `State.beginExecution` -/

@[simp] theorem State.beginExecution_sr : (s.beginExecution).sr = s.sr := rfl
@[simp] theorem State.beginExecution_vbr : (s.beginExecution).vbr = s.vbr := rfl
@[simp] theorem State.beginExecution_cacr : (s.beginExecution).cacr = s.cacr := rfl
@[simp] theorem State.beginExecution_tc : (s.beginExecution).tc = s.tc := rfl
@[simp] theorem State.beginExecution_ttrs : (s.beginExecution).ttrs = s.ttrs := rfl
@[simp] theorem State.beginExecution_urp : (s.beginExecution).urp = s.urp := rfl
@[simp] theorem State.beginExecution_srp : (s.beginExecution).srp = s.srp := rfl
@[simp] theorem State.beginExecution_mmusr : (s.beginExecution).mmusr = s.mmusr := rfl
@[simp] theorem State.beginExecution_isp : (s.beginExecution).isp = s.isp := rfl
@[simp] theorem State.beginExecution_usp : (s.beginExecution).usp = s.usp := rfl
@[simp] theorem State.beginExecution_msp : (s.beginExecution).msp = s.msp := rfl
@[simp] theorem State.beginExecution_pc : (s.beginExecution).pc = s.pc := rfl
@[simp] theorem State.beginExecution_d : (s.beginExecution).d = s.d := rfl
@[simp] theorem State.beginExecution_a : (s.beginExecution).a = s.a := rfl
@[simp] theorem State.beginExecution_sfc : (s.beginExecution).sfc = s.sfc := rfl
@[simp] theorem State.beginExecution_dfc : (s.beginExecution).dfc = s.dfc := rfl
@[simp] theorem State.beginExecution_fpu : (s.beginExecution).fpu = s.fpu := rfl
@[simp] theorem State.beginExecution_dcache : (s.beginExecution).dcache = s.dcache := rfl
@[simp] theorem State.beginExecution_icache : (s.beginExecution).icache = s.icache := rfl
@[simp] theorem State.beginExecution_atc : (s.beginExecution).atc = s.atc := rfl
@[simp] theorem State.beginExecution_pf : (s.beginExecution).pf = s.pf := rfl
@[simp] theorem State.beginExecution_pipeline : (s.beginExecution).pipeline = s.pipeline := rfl
@[simp] theorem State.beginExecution_shadow : (s.beginExecution).shadow = s.shadow := rfl
@[simp] theorem State.beginExecution_writeBacks : (s.beginExecution).writeBacks = s.writeBacks := rfl
@[simp] theorem State.beginExecution_mem : (s.beginExecution).mem = s.mem := rfl
@[simp] theorem State.beginExecution_rsti : (s.beginExecution).rsti = s.rsti := rfl
@[simp] theorem State.beginExecution_rstiAge : (s.beginExecution).rstiAge = s.rstiAge := rfl
@[simp] theorem State.beginExecution_rstiLate : (s.beginExecution).rstiLate = s.rstiLate := rfl
@[simp] theorem State.beginExecution_pins : (s.beginExecution).pins = s.pins := rfl
@[simp] theorem State.beginExecution_pinsAtNegation : (s.beginExecution).pinsAtNegation = s.pinsAtNegation := rfl
@[simp] theorem State.beginExecution_bg : (s.beginExecution).bg = s.bg := rfl
@[simp] theorem State.beginExecution_response : (s.beginExecution).response = s.response := rfl
@[simp] theorem State.beginExecution_iackAnswered : (s.beginExecution).iackAnswered = s.iackAnswered := rfl
@[simp] theorem State.beginExecution_mi : (s.beginExecution).mi = s.mi := rfl
@[simp] theorem State.beginExecution_bus : (s.beginExecution).bus = .ordinary := rfl
@[simp] theorem State.beginExecution_specialModes : (s.beginExecution).specialModes = s.specialModes := rfl
@[simp] theorem State.beginExecution_vec : (s.beginExecution).vec = s.vec := rfl
@[simp] theorem State.beginExecution_phase : (s.beginExecution).phase = .running := rfl
@[simp] theorem State.beginExecution_history : (s.beginExecution).history = s.history := rfl
@[simp] theorem State.beginExecution_clock : (s.beginExecution).clock = s.clock := rfl
@[simp] theorem State.beginExecution_schedule : (s.beginExecution).schedule = s.schedule := rfl

/-! `State.raise` -/

@[simp] theorem State.raise_sr (f : Fault) : (s.raise f).sr = s.sr := rfl
@[simp] theorem State.raise_vbr (f : Fault) : (s.raise f).vbr = s.vbr := rfl
@[simp] theorem State.raise_cacr (f : Fault) : (s.raise f).cacr = s.cacr := rfl
@[simp] theorem State.raise_tc (f : Fault) : (s.raise f).tc = s.tc := rfl
@[simp] theorem State.raise_ttrs (f : Fault) : (s.raise f).ttrs = s.ttrs := rfl
@[simp] theorem State.raise_urp (f : Fault) : (s.raise f).urp = s.urp := rfl
@[simp] theorem State.raise_srp (f : Fault) : (s.raise f).srp = s.srp := rfl
@[simp] theorem State.raise_mmusr (f : Fault) : (s.raise f).mmusr = s.mmusr := rfl
@[simp] theorem State.raise_isp (f : Fault) : (s.raise f).isp = s.isp := rfl
@[simp] theorem State.raise_usp (f : Fault) : (s.raise f).usp = s.usp := rfl
@[simp] theorem State.raise_msp (f : Fault) : (s.raise f).msp = s.msp := rfl
@[simp] theorem State.raise_pc (f : Fault) : (s.raise f).pc = s.pc := rfl
@[simp] theorem State.raise_d (f : Fault) : (s.raise f).d = s.d := rfl
@[simp] theorem State.raise_a (f : Fault) : (s.raise f).a = s.a := rfl
@[simp] theorem State.raise_sfc (f : Fault) : (s.raise f).sfc = s.sfc := rfl
@[simp] theorem State.raise_dfc (f : Fault) : (s.raise f).dfc = s.dfc := rfl
@[simp] theorem State.raise_fpu (f : Fault) : (s.raise f).fpu = s.fpu := rfl
@[simp] theorem State.raise_dcache (f : Fault) : (s.raise f).dcache = s.dcache := rfl
@[simp] theorem State.raise_icache (f : Fault) : (s.raise f).icache = s.icache := rfl
@[simp] theorem State.raise_atc (f : Fault) : (s.raise f).atc = s.atc := rfl
@[simp] theorem State.raise_pf (f : Fault) : (s.raise f).pf = s.pf := rfl
@[simp] theorem State.raise_pipeline (f : Fault) : (s.raise f).pipeline = s.pipeline := rfl
@[simp] theorem State.raise_shadow (f : Fault) : (s.raise f).shadow = s.shadow := rfl
@[simp] theorem State.raise_writeBacks (f : Fault) : (s.raise f).writeBacks = s.writeBacks := rfl
@[simp] theorem State.raise_mem (f : Fault) : (s.raise f).mem = s.mem := rfl
@[simp] theorem State.raise_rsti (f : Fault) : (s.raise f).rsti = s.rsti := rfl
@[simp] theorem State.raise_rstiAge (f : Fault) : (s.raise f).rstiAge = s.rstiAge := rfl
@[simp] theorem State.raise_rstiLate (f : Fault) : (s.raise f).rstiLate = s.rstiLate := rfl
@[simp] theorem State.raise_pins (f : Fault) : (s.raise f).pins = s.pins := rfl
@[simp] theorem State.raise_pinsAtNegation (f : Fault) : (s.raise f).pinsAtNegation = s.pinsAtNegation := rfl
@[simp] theorem State.raise_bg (f : Fault) : (s.raise f).bg = s.bg := rfl
@[simp] theorem State.raise_response (f : Fault) : (s.raise f).response = s.response := rfl
@[simp] theorem State.raise_iackAnswered (f : Fault) : (s.raise f).iackAnswered = s.iackAnswered := rfl
@[simp] theorem State.raise_mi (f : Fault) : (s.raise f).mi = s.mi := rfl
@[simp] theorem State.raise_bus (f : Fault) : (s.raise f).bus = s.bus := rfl
@[simp] theorem State.raise_specialModes (f : Fault) : (s.raise f).specialModes = s.specialModes := rfl
@[simp] theorem State.raise_vec (f : Fault) : (s.raise f).vec = s.vec := rfl
@[simp] theorem State.raise_phase (f : Fault) : (s.raise f).phase = .faulted f := rfl
@[simp] theorem State.raise_history (f : Fault) : (s.raise f).history = s.history := rfl
@[simp] theorem State.raise_clock (f : Fault) : (s.raise f).clock = s.clock := rfl
@[simp] theorem State.raise_schedule (f : Fault) : (s.raise f).schedule = s.schedule := rfl

/-! `State.record` -/

@[simp] theorem State.record_sr (e : Event) : (s.record e).sr = s.sr := rfl
@[simp] theorem State.record_vbr (e : Event) : (s.record e).vbr = s.vbr := rfl
@[simp] theorem State.record_cacr (e : Event) : (s.record e).cacr = s.cacr := rfl
@[simp] theorem State.record_tc (e : Event) : (s.record e).tc = s.tc := rfl
@[simp] theorem State.record_ttrs (e : Event) : (s.record e).ttrs = s.ttrs := rfl
@[simp] theorem State.record_urp (e : Event) : (s.record e).urp = s.urp := rfl
@[simp] theorem State.record_srp (e : Event) : (s.record e).srp = s.srp := rfl
@[simp] theorem State.record_mmusr (e : Event) : (s.record e).mmusr = s.mmusr := rfl
@[simp] theorem State.record_isp (e : Event) : (s.record e).isp = s.isp := rfl
@[simp] theorem State.record_usp (e : Event) : (s.record e).usp = s.usp := rfl
@[simp] theorem State.record_msp (e : Event) : (s.record e).msp = s.msp := rfl
@[simp] theorem State.record_pc (e : Event) : (s.record e).pc = s.pc := rfl
@[simp] theorem State.record_d (e : Event) : (s.record e).d = s.d := rfl
@[simp] theorem State.record_a (e : Event) : (s.record e).a = s.a := rfl
@[simp] theorem State.record_sfc (e : Event) : (s.record e).sfc = s.sfc := rfl
@[simp] theorem State.record_dfc (e : Event) : (s.record e).dfc = s.dfc := rfl
@[simp] theorem State.record_fpu (e : Event) : (s.record e).fpu = s.fpu := rfl
@[simp] theorem State.record_dcache (e : Event) : (s.record e).dcache = s.dcache := rfl
@[simp] theorem State.record_icache (e : Event) : (s.record e).icache = s.icache := rfl
@[simp] theorem State.record_atc (e : Event) : (s.record e).atc = s.atc := rfl
@[simp] theorem State.record_pf (e : Event) : (s.record e).pf = s.pf := rfl
@[simp] theorem State.record_pipeline (e : Event) : (s.record e).pipeline = s.pipeline := rfl
@[simp] theorem State.record_shadow (e : Event) : (s.record e).shadow = s.shadow := rfl
@[simp] theorem State.record_writeBacks (e : Event) : (s.record e).writeBacks = s.writeBacks := rfl
@[simp] theorem State.record_mem (e : Event) : (s.record e).mem = s.mem := rfl
@[simp] theorem State.record_rsti (e : Event) : (s.record e).rsti = s.rsti := rfl
@[simp] theorem State.record_rstiAge (e : Event) : (s.record e).rstiAge = s.rstiAge := rfl
@[simp] theorem State.record_rstiLate (e : Event) : (s.record e).rstiLate = s.rstiLate := rfl
@[simp] theorem State.record_pins (e : Event) : (s.record e).pins = s.pins := rfl
@[simp] theorem State.record_pinsAtNegation (e : Event) : (s.record e).pinsAtNegation = s.pinsAtNegation := rfl
@[simp] theorem State.record_bg (e : Event) : (s.record e).bg = s.bg := rfl
@[simp] theorem State.record_response (e : Event) : (s.record e).response = s.response := rfl
@[simp] theorem State.record_iackAnswered (e : Event) : (s.record e).iackAnswered = s.iackAnswered := rfl
@[simp] theorem State.record_mi (e : Event) : (s.record e).mi = s.mi := rfl
@[simp] theorem State.record_bus (e : Event) : (s.record e).bus = s.bus := rfl
@[simp] theorem State.record_specialModes (e : Event) : (s.record e).specialModes = s.specialModes := rfl
@[simp] theorem State.record_vec (e : Event) : (s.record e).vec = s.vec := rfl
@[simp] theorem State.record_phase (e : Event) : (s.record e).phase = s.phase := rfl
@[simp] theorem State.record_history (e : Event) : (s.record e).history = s.history ++ [e] := rfl
@[simp] theorem State.record_clock (e : Event) : (s.record e).clock = s.clock := rfl
@[simp] theorem State.record_schedule (e : Event) : (s.record e).schedule = s.schedule := rfl

/-! `State.havoc` -/

@[simp] theorem State.havoc_sr : (s.havoc).sr = { s.sr with ccr := (Config.havoc s.clock).ccr } := rfl
@[simp] theorem State.havoc_vbr : (s.havoc).vbr = s.vbr := rfl
@[simp] theorem State.havoc_cacr : (s.havoc).cacr = { s.cacr with rest := (Config.havoc s.clock).cacrRest } := rfl
@[simp] theorem State.havoc_tc : (s.havoc).tc = { s.tc with rest := (Config.havoc s.clock).tcRest } := rfl
@[simp] theorem State.havoc_ttrs : (s.havoc).ttrs = ⟨{ s.ttrs.ttr0 with rest := (Config.havoc s.clock).ttr0Rest }, { s.ttrs.ttr1 with rest := (Config.havoc s.clock).ttr1Rest },
      { s.ttrs.ttr2 with rest := (Config.havoc s.clock).ttr2Rest }, { s.ttrs.ttr3 with rest := (Config.havoc s.clock).ttr3Rest }⟩ := rfl
@[simp] theorem State.havoc_urp : (s.havoc).urp = (Config.havoc s.clock).urp := rfl
@[simp] theorem State.havoc_srp : (s.havoc).srp = (Config.havoc s.clock).srp := rfl
@[simp] theorem State.havoc_mmusr : (s.havoc).mmusr = (Config.havoc s.clock).mmusr := rfl
@[simp] theorem State.havoc_isp : (s.havoc).isp = s.isp := rfl
@[simp] theorem State.havoc_usp : (s.havoc).usp = (Config.havoc s.clock).usp := rfl
@[simp] theorem State.havoc_msp : (s.havoc).msp = (Config.havoc s.clock).msp := rfl
@[simp] theorem State.havoc_pc : (s.havoc).pc = s.pc := rfl
@[simp] theorem State.havoc_d : (s.havoc).d = (Config.havoc s.clock).d := rfl
@[simp] theorem State.havoc_a : (s.havoc).a = (Config.havoc s.clock).a := rfl
@[simp] theorem State.havoc_sfc : (s.havoc).sfc = (Config.havoc s.clock).sfc := rfl
@[simp] theorem State.havoc_dfc : (s.havoc).dfc = (Config.havoc s.clock).dfc := rfl
@[simp] theorem State.havoc_fpu : (s.havoc).fpu = (Config.havoc s.clock).fpu := rfl
@[simp] theorem State.havoc_dcache : (s.havoc).dcache = (Config.havoc s.clock).dcache := rfl
@[simp] theorem State.havoc_icache : (s.havoc).icache = (Config.havoc s.clock).icache := rfl
@[simp] theorem State.havoc_atc : (s.havoc).atc = (Config.havoc s.clock).atc := rfl
@[simp] theorem State.havoc_pf : (s.havoc).pf = s.pf := rfl
@[simp] theorem State.havoc_pipeline : (s.havoc).pipeline = s.pipeline := rfl
@[simp] theorem State.havoc_shadow : (s.havoc).shadow = s.shadow := rfl
@[simp] theorem State.havoc_writeBacks : (s.havoc).writeBacks = s.writeBacks := rfl
@[simp] theorem State.havoc_mem : (s.havoc).mem = s.mem := rfl
@[simp] theorem State.havoc_rsti : (s.havoc).rsti = s.rsti := rfl
@[simp] theorem State.havoc_rstiAge : (s.havoc).rstiAge = s.rstiAge := rfl
@[simp] theorem State.havoc_rstiLate : (s.havoc).rstiLate = s.rstiLate := rfl
@[simp] theorem State.havoc_pins : (s.havoc).pins = s.pins := rfl
@[simp] theorem State.havoc_pinsAtNegation : (s.havoc).pinsAtNegation = s.pinsAtNegation := rfl
@[simp] theorem State.havoc_bg : (s.havoc).bg = s.bg := rfl
@[simp] theorem State.havoc_response : (s.havoc).response = s.response := rfl
@[simp] theorem State.havoc_iackAnswered : (s.havoc).iackAnswered = s.iackAnswered := rfl
@[simp] theorem State.havoc_mi : (s.havoc).mi = s.mi := rfl
@[simp] theorem State.havoc_bus : (s.havoc).bus = s.bus := rfl
@[simp] theorem State.havoc_specialModes : (s.havoc).specialModes = s.specialModes := rfl
@[simp] theorem State.havoc_vec : (s.havoc).vec = s.vec := rfl
@[simp] theorem State.havoc_phase : (s.havoc).phase = s.phase := rfl
@[simp] theorem State.havoc_history : (s.havoc).history = s.history := rfl
@[simp] theorem State.havoc_clock : (s.havoc).clock = s.clock := rfl
@[simp] theorem State.havoc_schedule : (s.havoc).schedule = s.schedule := rfl

end

end Sys2Proof.Machine
end

