-- ==== Sys2Proof/Laws/Ops.lean ====
section
/-!
SUPPORT. One lemma per shared operation that says all it can do: the bus read, the read of reset exception processing,
the prefetch store, the environment's moves and the fetch.
-/
namespace Sys2Proof.Machine

variable {s t : State} {a : Long}

/-- A read transfer that may be on the bus is not kept off it by the acknowledge cycle. -/
theorem bus_ne_iackCycle_of_mayTransfer (h : s.mayTransfer = true) : s.bus ≠ .iackCycle := by
  intro hb
  simp [State.mayTransfer, hb] at h

theorem busRead_eq_translated : s.busRead a = .translated ↔ s.translationOn = true := by
  unfold State.busRead
  cases s.translationOn <;> cases s.mayTransfer <;> cases s.response <;> cases s.mem.longAt a <;>
    by_cases hb : s.bus = .iackCycle <;> simp [hb]

theorem busRead_eq_value {v : Long} : s.busRead a = .value v ↔ s.answers a v := by
  unfold State.busRead State.answers
  cases s.translationOn <;> cases s.mayTransfer <;> cases s.response <;> cases s.mem.longAt a <;>
    by_cases hb : s.bus = .iackCycle <;> simp [hb]

theorem busRead_eq_failed : s.busRead a = .failed ↔ s.failsAt a := by
  unfold State.busRead State.failsAt
  cases s.translationOn <;> cases s.mayTransfer <;> cases s.response <;> cases s.mem.longAt a <;>
    by_cases hb : s.bus = .iackCycle <;> simp [hb]

theorem busRead_eq_noBus : s.busRead a = .noBus ↔ s.busDenied := by
  unfold State.busRead State.busDenied
  cases s.translationOn <;> cases s.mayTransfer <;> cases s.response <;> cases s.mem.longAt a <;>
    by_cases hb : s.bus = .iackCycle <;> simp [hb]

theorem busRead_eq_acknowledging : s.busRead a = .acknowledging ↔ s.acknowledging := by
  have hn := bus_ne_iackCycle_of_mayTransfer (s := s)
  unfold State.busRead State.acknowledging
  by_cases hb : s.bus = .iackCycle <;> cases hm : s.mayTransfer <;> cases s.translationOn <;> cases s.response <;>
    cases s.mem.longAt a <;> simp_all

theorem busRead_eq_retried : s.busRead a = .retried ↔ s.retried := by
  unfold State.busRead State.retried
  cases s.translationOn <;> cases s.mayTransfer <;> cases s.response <;> cases s.mem.longAt a <;>
    by_cases hb : s.bus = .iackCycle <;> simp [hb]

theorem busRead_eq_unanswered : s.busRead a = .unanswered ↔ s.unanswered := by
  unfold State.busRead State.unanswered
  cases s.translationOn <;> cases s.mayTransfer <;> cases s.response <;> cases s.mem.longAt a <;>
    by_cases hb : s.bus = .iackCycle <;> simp [hb]

/-- A read of reset exception processing that answers a next state had no bus, waited for the acknowledge cycle, was
retried, was not answered, failed, or returned a value. -/
theorem readThen_next {cause : ReadCause} {go : Long → State → State}
    (h : s.readThen cause a go = .next t) :
    (s.busDenied ∧ t = s) ∨ (s.acknowledging ∧ t = s.awaitAcknowledge) ∨ (s.retried ∧ t = s.endTransfer) ∨
    (s.unanswered ∧ t = s.holdTransfer cause a) ∨
    (s.failsAt a ∧ t = (s.endTransfer.record (.readFailed cause a)).raise (.resetFetchFault a)) ∨
    ∃ v, s.answers a v ∧ t = go v (s.endTransfer.record (.read cause a v)) := by
  unfold State.readThen at h
  split at h
  · cases h
  · next hr => cases h; exact .inl ⟨busRead_eq_noBus.1 hr, rfl⟩
  · next hr => cases h; exact .inr (.inl ⟨busRead_eq_acknowledging.1 hr, rfl⟩)
  · next hr => cases h; exact .inr (.inr (.inl ⟨busRead_eq_retried.1 hr, rfl⟩))
  · next hr => cases h; exact .inr (.inr (.inr (.inl ⟨busRead_eq_unanswered.1 hr, rfl⟩)))
  · next hr => cases h; exact .inr (.inr (.inr (.inr (.inl ⟨busRead_eq_failed.1 hr, rfl⟩))))
  · next v hr => cases h; exact .inr (.inr (.inr (.inr (.inr ⟨v, busRead_eq_value.1 hr, rfl⟩))))

theorem readThen_of_answers {cause : ReadCause} {go : Long → State → State} {v : Long} (h : s.answers a v) :
    s.readThen cause a go = .next (go v (s.endTransfer.record (.read cause a v))) := by
  simp only [State.readThen, busRead_eq_value.2 h]

theorem readThen_of_failsAt {cause : ReadCause} {go : Long → State → State} (h : s.failsAt a) :
    s.readThen cause a go = .next ((s.endTransfer.record (.readFailed cause a)).raise (.resetFetchFault a)) := by
  simp only [State.readThen, busRead_eq_failed.2 h]

theorem readThen_of_busDenied {cause : ReadCause} {go : Long → State → State} (h : s.busDenied) :
    s.readThen cause a go = .next s := by
  simp only [State.readThen, busRead_eq_noBus.2 h]

theorem readThen_of_acknowledging {cause : ReadCause} {go : Long → State → State} (h : s.acknowledging) :
    s.readThen cause a go = .next s.awaitAcknowledge := by
  simp only [State.readThen, busRead_eq_acknowledging.2 h]

theorem readThen_of_retried {cause : ReadCause} {go : Long → State → State} (h : s.retried) :
    s.readThen cause a go = .next s.endTransfer := by
  simp only [State.readThen, busRead_eq_retried.2 h]

theorem readThen_of_unanswered {cause : ReadCause} {go : Long → State → State} (h : s.unanswered) :
    s.readThen cause a go = .next (s.holdTransfer cause a) := by
  simp only [State.readThen, busRead_eq_unanswered.2 h]

theorem readThen_of_translationOn {cause : ReadCause} {go : Long → State → State} (h : s.translationOn = true) :
    s.readThen cause a go = .refused .translationEnabled := by
  simp only [State.readThen, busRead_eq_translated.2 h]

/-- A reading event is a read of its address for its cause (rules R87, R88). -/
theorem processEvent_read {e : BusEvent} (he : s.eventAddr e = some a) :
    ∃ go, s.processEvent e = s.readThen e.cause a go := by
  cases e <;> cases he <;> (simp only [State.processEvent, BusEvent.cause]; exact ⟨_, rfl⟩)

/-- A reading event whose read fails records the fault (rule R91). -/
theorem processEvent_of_failsAt {e : BusEvent} (he : s.eventAddr e = some a) (h : s.failsAt a) :
    s.processEvent e = .next ((s.endTransfer.record (.readFailed e.cause a)).raise (.resetFetchFault a)) := by
  obtain ⟨go, hg⟩ := processEvent_read he
  rw [hg, readThen_of_failsAt h]

/-- A reading event waits for the bus (rule R118). -/
theorem processEvent_of_busDenied {e : BusEvent} (he : s.eventAddr e = some a) (h : s.busDenied) :
    s.processEvent e = .next s := by
  obtain ⟨go, hg⟩ := processEvent_read he
  rw [hg, readThen_of_busDenied h]

/-- The acknowledge cycle that is not answered stays on the bus. -/
theorem awaitAcknowledge_of_unanswered (h : s.iackAnswered = false) : s.awaitAcknowledge = s := by
  cases s
  cases h
  rfl

/-- The answer ends the acknowledge cycle. -/
theorem awaitAcknowledge_of_answered (h : s.iackAnswered = true) :
    s.awaitAcknowledge = { s with bus := .implicitOwnership } := by
  cases s
  cases h
  rfl

/-- A transfer on the bus does not need the grant (rules R45, R118). -/
theorem mayTransfer_of_readTransfer {cause : ReadCause} {start : Bool} (h : s.bus = .readTransfer cause a start) :
    s.mayTransfer = true := by
  simp only [State.mayTransfer, h]

/-- A transfer that may be on the bus has the grant or is there already. -/
theorem bg_or_readTransfer_of_mayTransfer (h : s.mayTransfer = true) :
    s.bg = true ∨ ∃ cause x start, s.bus = .readTransfer cause x start := by
  unfold State.mayTransfer at h
  split at h
  · next hb => exact .inr ⟨_, _, _, hb⟩
  · cases h
  all_goals exact .inl h

/-- A reading event waits for the acknowledge cycle (rule R126). -/
theorem processEvent_of_acknowledging {e : BusEvent} (he : s.eventAddr e = some a) (h : s.acknowledging) :
    s.processEvent e = .next s.awaitAcknowledge := by
  obtain ⟨go, hg⟩ := processEvent_read he
  rw [hg, readThen_of_acknowledging h]

/-- A reading event whose transfer is retried is to be made again (rule R57). -/
theorem processEvent_of_retried {e : BusEvent} (he : s.eventAddr e = some a) (h : s.retried) :
    s.processEvent e = .next s.endTransfer := by
  obtain ⟨go, hg⟩ := processEvent_read he
  rw [hg, readThen_of_retried h]

/-- A reading event whose transfer is not ended leaves it on the bus (rule R45). -/
theorem processEvent_of_unanswered {e : BusEvent} (he : s.eventAddr e = some a) (h : s.unanswered) :
    s.processEvent e = .next (s.holdTransfer e.cause a) := by
  obtain ⟨go, hg⟩ := processEvent_read he
  rw [hg, readThen_of_unanswered h]

/-- A reading event with translation on is refused (rule R50). -/
theorem processEvent_of_translationOn {e : BusEvent} (he : s.eventAddr e = some a) (h : s.translationOn = true) :
    s.processEvent e = .refused .translationEnabled := by
  obtain ⟨go, hg⟩ := processEvent_read he
  rw [hg, readThen_of_translationOn h]

/-- The read of vector number 0 answered (rule R87). -/
theorem processEvent_vector0 {v : Long} (h : s.answers s.vectorBase v) :
    s.processEvent .vector0 =
      .next { s.endTransfer.record (.read .exceptionVectorFetch s.vectorBase v) with phase := .processing (.vector1 v) } := by
  unfold State.processEvent
  exact readThen_of_answers h

/-- The read of vector number 1 answered (rule R87). -/
theorem processEvent_vector1 {v0 v : Long} (h : s.answers (s.vectorBase + 4) v) :
    s.processEvent (.vector1 v0) =
      .next ((s.endTransfer.record (.read .exceptionVectorFetch (s.vectorBase + 4) v)).loadVector v0 v) := by
  unfold State.processEvent
  exact readThen_of_answers h

/-- A prefetch read answered (rule R88). -/
theorem processEvent_prefetch {k : Fin 4} {w : Long} (h : s.answers (s.prefetchAddr k) w) :
    s.processEvent (.prefetch k) =
      .next ((s.endTransfer.record (.read .disabledCache (s.prefetchAddr k) w)).storePrefetch k w) := by
  unfold State.processEvent
  exact readThen_of_answers h

/-- A prefetch read before the fourth (rule R88). -/
theorem storePrefetch_of_lt {k : Fin 4} {w : Long} (h : k.val + 1 < 4) :
    s.storePrefetch k w = { s with pf := s.pf ++ [w], phase := .processing (.prefetch ⟨k.val + 1, h⟩) } := by
  simp [State.storePrefetch, h]

/-- The fourth prefetch read concludes reset exception processing (rule R89). -/
theorem storePrefetch_last {w : Long} :
    s.storePrefetch 3 w = { s.havoc with pf := s.pf ++ [w], phase := .done } := by
  simp [State.storePrefetch]

/-- What the environment's moves leave alone: every register, PF and the bookkeeping (rule R126). -/
theorem applyEnv_frame (s : State) (m : EnvMove) :
    s.applyEnv m =
      { s with
        rsti := (s.applyEnv m).rsti, rstiAge := (s.applyEnv m).rstiAge, rstiLate := (s.applyEnv m).rstiLate,
        pins := (s.applyEnv m).pins, pinsAtNegation := (s.applyEnv m).pinsAtNegation, bg := (s.applyEnv m).bg,
        response := (s.applyEnv m).response,
        iackAnswered := (s.applyEnv m).iackAnswered, mem := (s.applyEnv m).mem } := by
  cases m <;> simp only [State.applyEnv, State.driveRsti, State.negateRsti] <;> (repeat' split) <;> rfl

/-- Only the move of another bus master changes memory (rule R126). -/
theorem applyEnv_mem (s : State) (m : EnvMove) :
    (s.applyEnv m).mem = s.mem ∨ ∃ x b, m = .writeMemory x b ∧ (s.applyEnv m).mem = s.mem.writeByte x.toNat b := by
  cases m with
  | writeMemory x b => exact .inr ⟨x, b, rfl, rfl⟩
  | assertRsti late => left; simp only [State.applyEnv, State.driveRsti]; split <;> rfl
  | negateRsti late levels =>
    left; simp only [State.applyEnv, State.negateRsti, State.driveRsti]; split <;> (try split) <;> rfl
  | _ => exact .inl rfl

/-- Running an instruction never answers a next state but when the fetch waits for the bus (rule R64). -/
theorem runInstruction_next (h : s.runInstruction = .next t) : t = s := by
  unfold State.runInstruction at h
  split at h
  · cases h
  · cases h; rfl
  · cases h
  · cases h
  · split at h
    · next i _ _ => cases i <;> cases h
    · cases h
    · cases h

theorem execute_next (h : s.execute = .next t) : t = s := by
  unfold State.execute at h
  split at h
  · cases h; rfl
  · exact runInstruction_next h

/-- A fetch sees memory as it is when no write-back is pending (rule R55). -/
theorem fetchMemory_of_settled (h : s.writeBacks = []) : s.fetchMemory = s.mem := by
  simp [State.fetchMemory, h]

/-- MI is asserted while reset holds it (rule R112). -/
theorem level_mi_of_heldByReset (h : s.mi = .heldByReset) : s.level .mi = .asserted := by
  simp [State.level, MiDrive.level, h]

/-- An output but MI takes the level of its drive. -/
theorem level_of_ne {o : Output} (h : o ≠ .mi) : s.level o = s.bus.level s.clock o := by
  simp [State.level, h]

/-- No output but MI is asserted in the reset period (rule R114). -/
theorem level_of_quiet {o : Output} (h : o ≠ .mi) (hb : s.bus = .quiet) :
    s.level o = if Config.canThreeState o then .threeStated else .negated := by
  rw [level_of_ne h, hb]
  rfl

/-- A transfer held on the bus is in its first clock or in a later one (rule R45). -/
theorem holdTransfer_cases (b : BusDrive) (cause : ReadCause) (a : Long) :
    ((∃ c x f, b = .readTransfer c x f) ∧ b.holdTransfer cause a = .readTransfer cause a false) ∨
    ((¬ ∃ c x f, b = .readTransfer c x f) ∧ b.holdTransfer cause a = .readTransfer cause a true) := by
  cases b <;> simp [BusDrive.holdTransfer]

end Sys2Proof.Machine
end

