-- ==== Sys2Proof/Laws/PerInstr.lean ====
section
/-!
SUPPORT. Statements for all instructions, one lemma per constructor. `TableRow`: the operation word of every
instruction has the fixed bits of its row of spec/opcode_table.json, and its length is the row's (rule R63).
-/
namespace Sys2Proof.Laws.TableRow

/-- The row an instruction stands for. -/
def row : Instr → OpcodeRow
  | .moves _ _ _ _ _ => ⟨"MOVES", 0x0E00#16, 0xFF00#16⟩
  | .rte => ⟨"RTE", 0x4E73#16, 0xFFFF#16⟩

/-- How many words its row gives it. -/
def words : Instr → Nat
  | .moves _ _ _ _ _ => 2
  | .rte => 1

/-- The instruction's row is in the table, its operation word has the row's fixed bits, and it is as long as the row. -/
def Statement (i : Instr) : Prop :=
  row i ∈ opcodeTable ∧ (∃ w, (encode i).head? = some w ∧ w &&& (row i).mask = (row i).fixedBits) ∧
    (encode i).length = words i

theorem moves (size : BitVec 2) (mode reg : BitVec 3) (r : GeneralReg) (dir : Direction) :
    Statement (.moves size mode reg r dir) := by
  refine ⟨by simp [row, opcodeTable], ⟨_, rfl, ?_⟩, rfl⟩
  show (0x0E#8 ++ size ++ mode ++ reg) &&& 0xFF00#16 = 0x0E00#16
  revert size mode reg
  decide

theorem rte : Statement .rte :=
  ⟨by simp [row, opcodeTable], ⟨_, rfl, by decide⟩, rfl⟩

end Sys2Proof.Laws.TableRow
end

