-- ==== Sys2Proof/Laws/Step.lean ====
section
/-!
SUPPORT. Everything a step can do: the rows of rule R118 as one relation, and the inversion lemma of `step`. Claims
about all steps split on these and unfold nothing.
-/
namespace Sys2Proof.Machine

/-- What the processor's turn does when no assertion of RSTI is recognised, by the rows of rule R118; `s` is the state
after the tick. -/
inductive RowEffect (s : State) : State → Prop
  /-- A wait: nothing changes. -/
  | stay : RowEffect s s
  | beginHold (hp : s.phase = .asserted) (hn : s.negationSeen = true) : RowEffect s s.beginHold
  | countDown (n : Nat) (hp : s.phase = .hold (n + 1)) : RowEffect s { s with phase := .hold n }
  | endHold (hp : s.phase = .hold 0) : RowEffect s s.endHold
  | takeOwnership (hp : s.phase = .awaitBus) (hb : s.bg = true) : RowEffect s s.takeOwnership
  | acknowledge (hp : s.phase = .processing .iack) (hb : s.bg = true) : RowEffect s s.acknowledge
  | beginExecution (hp : s.phase = .done) : RowEffect s s.beginExecution
  | awaitAcknowledge (e : BusEvent) (a : Long) (hp : s.phase = .processing e) (he : s.eventAddr e = some a)
      (ha : s.acknowledging) : RowEffect s s.awaitAcknowledge
  | retried (e : BusEvent) (a : Long) (hp : s.phase = .processing e) (he : s.eventAddr e = some a) (hr : s.retried) :
      RowEffect s s.endTransfer
  | unanswered (e : BusEvent) (a : Long) (hp : s.phase = .processing e) (he : s.eventAddr e = some a)
      (hu : s.unanswered) : RowEffect s (s.holdTransfer e.cause a)
  | readVector0 (v : Long) (hp : s.phase = .processing .vector0) (ha : s.answers s.vectorBase v) :
      RowEffect s { s.endTransfer.record (.read .exceptionVectorFetch s.vectorBase v) with phase := .processing (.vector1 v) }
  | readVector1 (v0 v : Long) (hp : s.phase = .processing (.vector1 v0)) (ha : s.answers (s.vectorBase + 4) v) :
      RowEffect s ((s.endTransfer.record (.read .exceptionVectorFetch (s.vectorBase + 4) v)).loadVector v0 v)
  | prefetch (k : Fin 4) (w : Long) (hp : s.phase = .processing (.prefetch k)) (ha : s.answers (s.prefetchAddr k) w) :
      RowEffect s ((s.endTransfer.record (.read .disabledCache (s.prefetchAddr k) w)).storePrefetch k w)
  | readFails (e : BusEvent) (a : Long) (hp : s.phase = .processing e) (he : s.eventAddr e = some a)
      (hf : s.failsAt a) : RowEffect s ((s.endTransfer.record (.readFailed e.cause a)).raise (.resetFetchFault a))

/-! The row of rule R118 for each phase. -/

section

variable {s : State}

theorem phaseRow_running (h : s.phase = .running) : s.phaseRow = s.execute := by simp only [State.phaseRow, h]

theorem phaseRow_asserted (h : s.phase = .asserted) :
    s.phaseRow = .next (if s.negationSeen then s.beginHold else s) := by simp only [State.phaseRow, h]

theorem phaseRow_hold_succ {n : Nat} (h : s.phase = .hold (n + 1)) :
    s.phaseRow = .next { s with phase := .hold n } := by simp only [State.phaseRow, h]

theorem phaseRow_hold_zero (h : s.phase = .hold 0) : s.phaseRow = .next s.endHold := by simp only [State.phaseRow, h]

theorem phaseRow_awaitBus (h : s.phase = .awaitBus) :
    s.phaseRow = .next (if s.bg then s.takeOwnership else s) := by simp only [State.phaseRow, h]

theorem phaseRow_processing {e : BusEvent} (h : s.phase = .processing e) : s.phaseRow = s.processEvent e := by
  simp only [State.phaseRow, h]

theorem phaseRow_done (h : s.phase = .done) : s.phaseRow = .next s.beginExecution := by simp only [State.phaseRow, h]

theorem phaseRow_faulted {f : Fault} (h : s.phase = .faulted f) : s.phaseRow = s.standFaulted f := by
  simp only [State.phaseRow, h]

end

theorem phaseRow_next {s t : State} (h : s.phaseRow = .next t) : RowEffect s t := by
  unfold State.phaseRow at h
  split at h
  · cases execute_next h; exact .stay
  · next hp =>
    cases h
    split
    · next hn => exact .beginHold hp hn
    · exact .stay
  · next n hp => cases h; exact .countDown n hp
  · next hp => cases h; exact .endHold hp
  · next hp =>
    cases h
    split
    · next hb => exact .takeOwnership hp hb
    · exact .stay
  · next e hp =>
    unfold State.processEvent at h
    split at h
    · cases h
      split
      · next hb => exact .acknowledge hp hb
      · exact .stay
    · obtain ⟨-, rfl⟩ | ⟨hk, rfl⟩ | ⟨hr, rfl⟩ | ⟨hu, rfl⟩ | ⟨hf, rfl⟩ | ⟨v, ha, rfl⟩ := readThen_next h
      · exact .stay
      · exact .awaitAcknowledge _ _ hp rfl hk
      · exact .retried _ _ hp rfl hr
      · exact .unanswered _ _ hp rfl hu
      · exact .readFails _ _ hp rfl hf
      · exact .readVector0 v hp ha
    · obtain ⟨-, rfl⟩ | ⟨hk, rfl⟩ | ⟨hr, rfl⟩ | ⟨hu, rfl⟩ | ⟨hf, rfl⟩ | ⟨v, ha, rfl⟩ := readThen_next h
      · exact .stay
      · exact .awaitAcknowledge _ _ hp rfl hk
      · exact .retried _ _ hp rfl hr
      · exact .unanswered _ _ hp rfl hu
      · exact .readFails _ _ hp rfl hf
      · exact .readVector1 _ v hp ha
    · obtain ⟨-, rfl⟩ | ⟨hk, rfl⟩ | ⟨hr, rfl⟩ | ⟨hu, rfl⟩ | ⟨hf, rfl⟩ | ⟨v, ha, rfl⟩ := readThen_next h
      · exact .stay
      · exact .awaitAcknowledge _ _ hp rfl hk
      · exact .retried _ _ hp rfl hr
      · exact .unanswered _ _ hp rfl hu
      · exact .readFails _ _ hp rfl hf
      · exact .prefetch _ v hp ha
  · next hp => cases h; exact .beginExecution hp
  · unfold State.standFaulted at h
    split at h
    · cases h; exact .stay
    · cases h

/-- What `processorNext` says of the schedule. -/
theorem processorNext_cases {s : State} (h : s.processorNext) :
    s.schedule = [] ∨ ∃ rest, s.schedule = .clock :: rest := by
  obtain ⟨l, hl⟩ : ∃ l, s.schedule = l := ⟨_, rfl⟩
  match l with
  | [] => exact .inl hl
  | .clock :: rest => exact .inr ⟨rest, hl⟩
  | .env m :: rest => simp only [State.processorNext, hl] at h

/-- The step when the processor moves next. -/
theorem step_of_processorNext {s : State} (h : s.processorNext) :
    step s = if s.ticked.assertionSeen && s.phase != .asserted then .next s.ticked.abandon else s.ticked.phaseRow := by
  obtain hs | ⟨rest, hs⟩ := processorNext_cases h
  · have hst : step s = s.clockTurn := by simp only [step, State.takeTurn, hs]
    have ht : s.ticked = s.tick := by unfold State.ticked; congr 1; cases s; cases hs; rfl
    rw [hst, ht, State.clockTurn]
  · simp only [step, State.takeTurn, State.ticked, hs, List.tail_cons, State.clockTurn]

/-- The step when the processor moves next and recognises no assertion of RSTI. -/
theorem step_of_undisturbed {s : State} (h : s.undisturbed) : step s = s.ticked.phaseRow := by
  rw [step_of_processorNext h.1, h.2]
  rfl

theorem step_of_env {s : State} {m : EnvMove} {rest : List Turn} (h : s.schedule = .env m :: rest) :
    step s = .next (({ s with schedule := rest }).applyEnv m) := by
  simp only [step, State.takeTurn, h]

/-- Everything a step can do that answers a next state. -/
theorem step_next {s t : State} (h : step s = .next t) :
    (∃ m rest, s.schedule = .env m :: rest ∧ t = ({ s with schedule := rest }).applyEnv m) ∨
    (s.processorNext ∧ s.ticked.assertionSeen = true ∧ s.phase ≠ .asserted ∧ t = s.ticked.abandon) ∨
    (s.processorNext ∧ RowEffect s.ticked t) := by
  by_cases hp : s.processorNext
  · rw [step_of_processorNext hp] at h
    split at h
    · next hc =>
      simp only [Bool.and_eq_true, bne_iff_ne] at hc
      cases h
      exact .inr (.inl ⟨hp, hc.1, hc.2, rfl⟩)
    · exact .inr (.inr ⟨hp, phaseRow_next h⟩)
  · obtain ⟨l, hl⟩ : ∃ l, s.schedule = l := ⟨_, rfl⟩
    match l with
    | [] => exact (hp (by simp only [State.processorNext, hl])).elim
    | .clock :: _ => exact (hp (by simp only [State.processorNext, hl])).elim
    | .env m :: rest =>
      rw [step_of_env hl] at h
      cases h
      exact .inl ⟨m, rest, hl, rfl⟩

/-- A run takes its first step and goes on. -/
theorem runSteps_of_next {s t : State} (n : Nat) (h : step s = .next t) : runSteps (n + 1) s = runSteps n t := by
  simp only [runSteps, h]

/-- The same for a claim about where a run ends, to be applied step after step. -/
theorem exists_runSteps_of_next {s t : State} {n : Nat} {P : State → Prop} (h : step s = .next t)
    (ht : ∃ u, runSteps n t = .next u ∧ P u) : ∃ u, runSteps (n + 1) s = .next u ∧ P u := by
  rwa [runSteps_of_next n h]

end Sys2Proof.Machine
end

