-- ==== Sys2Proof/Tests/Slice0.lean ====
section
/-!
SUPPORT. The model's own tests: well-formedness, decoding of words written out from the encodings of rule R63, single steps
with the results of 95_test_vectors.md, and for every obligation with hypotheses a state that meets them.
-/
namespace Sys2Proof.Tests

open Sys2Proof Sys2Proof.Machine

/-! ### Well-formedness and decoding -/

/-- An ill-formed MOVES (size 11) is refused by the check, the three sizes are not. -/
theorem test_wellFormed_size :
    (Instr.moves 3#2 2#3 0#3 (.data 0#3) .memoryToRegister).wellFormed = false ∧
    (Instr.moves 0#2 2#3 0#3 (.data 0#3) .memoryToRegister).wellFormed = true ∧
    (Instr.moves 1#2 2#3 0#3 (.data 0#3) .memoryToRegister).wellFormed = true ∧
    (Instr.moves 2#2 7#3 7#3 (.addr 7#3) .registerToMemory).wellFormed = true := by decide

/-- RTE, 0100 1110 0111 0011 (rule R63, V17). -/
theorem test_decode_rte : decode [0b01001110#8, 0b01110011#8] = .ok (.rte, []) := by decide

/-- MOVES.B (A0),D0: 0000 1110 00 010 000, 0 000 0 00000000000 (V17). -/
theorem test_decode_moves_byte :
    decode [0b00001110#8, 0b00010000#8, 0b00000000#8, 0b00000000#8] =
      .ok (.moves 0b00#2 0b010#3 0b000#3 (.data 0b000#3) .memoryToRegister, []) := by decide

/-- MOVES.L A0,(A0): 0000 1110 10 010 000, 1 000 1 00000000000 (V17). -/
theorem test_decode_moves_long :
    decode [0b00001110#8, 0b10010000#8, 0b10001000#8, 0b00000000#8] =
      .ok (.moves 0b10#2 0b010#3 0b000#3 (.addr 0b000#3) .registerToMemory, []) := by decide

/-- Every field of MOVES at a value of its own: 0000 1110 01 011 101, 1 110 0 00000000000 (rule R63); the next byte is left
over. -/
theorem test_decode_moves_fields :
    decode [0b00001110#8, 0b01011101#8, 0b11100000#8, 0b00000000#8, 0xFF#8] =
      .ok (.moves 0b01#2 0b011#3 0b101#3 (.addr 0b110#3) .memoryToRegister, [0xFF#8]) := by decide

/-- Every data register, the other direction: 0000 1110 10 111 001, 0 101 1 00000000000 (rule R63). -/
theorem test_decode_moves_data :
    decode [0b00001110#8, 0b10111001#8, 0b01011000#8, 0b00000000#8] =
      .ok (.moves 0b10#2 0b111#3 0b001#3 (.data 0b101#3) .registerToMemory, []) := by decide

/-- $0ED0, $4E71 and $4E72 are refused unnamed (V17). -/
theorem test_decode_refuses :
    decode [0x0E#8, 0xD0#8] = .error .notInSource ∧ decode [0x4E#8, 0x71#8] = .error .notInSource ∧
    decode [0x4E#8, 0x72#8] = .error .notInSource ∧ decode [0x00#8, 0x00#8] = .error .notInSource := by decide

/-- An extension word whose low eleven bits are not zero is no MOVES (rule R63). -/
theorem test_decode_extension :
    decode [0x0E#8, 0x10#8, 0x00#8, 0x01#8] = .error .notInSource ∧
    decode [0x0E#8, 0x10#8, 0x04#8, 0x00#8] = .error .notInSource ∧
    decode [0x0E#8, 0x10#8, 0x08#8, 0x00#8] =
      .ok (.moves 0#2 2#3 0#3 (.data 0#3) .registerToMemory, []) := by decide

/-- Bytes without a whole word, and a MOVES word without its extension word, which is refused as any other word (rule R64). -/
theorem test_decode_truncated :
    decode [] = .error .truncated ∧ decode [0x4E#8] = .error .truncated ∧
    decode [0x0E#8, 0x10#8, 0x00#8] = .error .notInSource := by decide

/-- The encoder writes the words of V17. -/
theorem test_encode :
    encode (.moves 2#2 2#3 0#3 (.addr 0#3) .registerToMemory) = [0x0E90#16, 0x8800#16] ∧
    encode .rte = [0x4E73#16] := by decide

/-- The table's numbering: the second word is bits 31 to 16 (spec/opcode_table.json). -/
theorem test_decodeTableWord :
    decodeTableWord 32 0x88000E90 = some (.moves 2#2 2#3 0#3 (.addr 0#3) .registerToMemory) ∧
    decodeTableWord 16 0x4E73 = some .rte ∧
    decodeTableWord 16 0x0E10 = some (.moves 0#2 2#3 0#3 (.data 0#3) .memoryToRegister) := by decide

/-- A placed RTE is what the next step from reset runs. -/
theorem test_step_placed_rte : step (State.reset.withFetchWord 16 0x4E73) = .refused .rteNotInSource := by rfl

/-- A placed MOVES is what the next step from reset runs. -/
theorem test_step_placed_moves : step (State.reset.withFetchWord 32 0x88000E90) = .refused .movesNotInSource := by rfl

/-- $4E71 placed: refused unnamed (V17). -/
theorem test_step_placed_other : step (State.reset.withFetchWord 16 0x4E71) = .refused .instructionSetNotInSource := by rfl

/-! ### States for single steps -/

/-- Bytes laid out from an address on, addresses modulo 2^32, over a memory. -/
def lay (m : Memory) : Long → List Byte → Memory
  | _, [] => m
  | a, b :: rest => lay (m.writeByte a.toNat b) (a + 1) rest

/-- V1's vector: ISP $00002000, PC $00000400. -/
def vectorV1 : List Byte := [0#8, 0#8, 0x20#8, 0#8, 0#8, 0#8, 0x04#8, 0#8]

/-- The sixteen bytes $01 to $10 (V3). -/
def sixteen : List Byte :=
  [1#8, 2#8, 3#8, 4#8, 5#8, 6#8, 7#8, 8#8, 9#8, 10#8, 11#8, 12#8, 13#8, 14#8, 15#8, 16#8]

/-- V1's vector with the sixteen distinct bytes at its PC. -/
def image : Memory := lay (lay [] 0#32 vectorV1) 0x400#32 sixteen

/-- A machine in phase `p`: V1's `PRE` where the spec names it, RSTI negated, the bus granted, nothing scheduled. -/
def machine (p : Phase) : State :=
  { State.reset with
    sr := ⟨true, true, false, true, 3#3, ⟨true, true, true, true, true⟩⟩, tc := ⟨false, 1#1, 0#14⟩,
    isp := 0xDEADBEEF#32, pc := 0x400#32, mem := image, rsti := false, schedule := [], bg := true, phase := p }

/-- V1's `PRE` at the end of the hold, every field at the opposite of what reset writes. -/
def preV1 : State :=
  { machine (.hold 0) with
    vbr := 0x12345678#32, cacr := ⟨true, true, 0#30⟩, tc := ⟨true, 1#1, 0#14⟩,
    ttrs := ⟨⟨true, 0#31⟩, ⟨true, 0#31⟩, ⟨true, 0#31⟩, ⟨true, 0#31⟩⟩, pc := 0xCAFEBABE#32 }

/-- RSTI asserted so long that this turn recognises it. -/
def recognising (p : Phase) : State := { machine p with rsti := true, rstiAge := 2, writeBacks := [(0#32, 0xFF#8)] }

/-- Waiting in `Asserted`; the negation is `age` clocks old. -/
def negated (age : Nat) : State := { machine .asserted with rstiAge := age }

/-- Reading vector number 1, which holds `v1`. -/
def readingPc (v1 : List Byte) : State :=
  { machine (.processing (.vector1 0x2000#32)) with
    mem := lay [] 4#32 v1, history := [.iackCycle, .read .exceptionVectorFetch 0#32 0x2000#32] }

/-- Before the fourth prefetch read of V3's bytes. -/
def beforeLast : State :=
  { machine (.processing (.prefetch 3)) with
    sr := ⟨false, false, true, false, 7#3, ⟨true, false, true, false, true⟩⟩, mi := .ordinary,
    bus := .implicitOwnership, isp := 0x2000#32, pf := [0x01020304#32, 0x05060708#32, 0x090A0B0C#32],
    history := vectorEvents 0x2000#32 0x400#32 ++ prefetchEvents 0x400#32 [0x01020304#32, 0x05060708#32, 0x090A0B0C#32] }

/-- The end of that boot. -/
def booted : State :=
  { beforeLast with
    phase := .done, pf := [0x01020304#32, 0x05060708#32, 0x090A0B0C#32, 0x0D0E0F10#32],
    history := vectorEvents 0x2000#32 0x400#32 ++
      prefetchEvents 0x400#32 [0x01020304#32, 0x05060708#32, 0x090A0B0C#32, 0x0D0E0F10#32] }

/-! ### Single steps with the spec's results -/

/-- V1: the registers after the hold. -/
theorem test_hold_end :
    ∃ t, step preV1 = .next t ∧ t.sr = ⟨false, false, true, false, 7#3, ⟨true, true, true, true, true⟩⟩ ∧ t.vbr = 0#32 ∧
      t.cacr.de = false ∧ t.cacr.ie = false ∧ t.tc = ⟨false, 1#1, 0#14⟩ ∧ t.ttrs.ttr3.e = false ∧
      t.isp = 0xDEADBEEF#32 ∧ t.pc = 0xCAFEBABE#32 ∧ t.phase = .awaitBus :=
  ⟨_, rfl, rfl, rfl, rfl, rfl, rfl, rfl, rfl, rfl, rfl⟩

/-- V6: PC is read big-endian, and ISP $00000001 is accepted. -/
theorem test_vector_big_endian :
    ∃ t, step { readingPc [0#8, 0#8, 1#8, 0#8] with phase := .processing (.vector1 1#32) } = .next t ∧
      t.isp = 1#32 ∧ t.pc = 0x100#32 ∧ t.phase = .processing (.prefetch 0) := ⟨_, rfl, rfl, rfl, rfl⟩

/-- V3, first vector read: $12345678 is read from 12 34 56 78. -/
theorem test_vector0_value :
    ∃ t, step { machine (.processing .vector0) with mem := lay [] 0#32 [0x12#8, 0x34#8, 0x56#8, 0x78#8] } = .next t ∧
      t.phase = .processing (.vector1 0x12345678#32) := ⟨_, rfl, rfl⟩

/-- V4: an odd PC is loaded and is the fault ResetOddPC. -/
theorem test_odd_pc :
    ∃ t, step (readingPc [0#8, 0#8, 4#8, 1#8]) = .next t ∧ t.phase = .faulted (.resetOddPc 0x401#32) ∧
      t.isp = 0x2000#32 ∧ t.pc = 0x401#32 := ⟨_, rfl, rfl, rfl, rfl⟩

/-- V8: the third prefetch read of PC $FFFFFFF8 is at address 0. -/
theorem test_prefetch_wraps :
    ∃ t, step { machine (.processing (.prefetch 2)) with pc := 0xFFFFFFF8#32 } = .next t ∧
      t.pf = [0x00002000#32] ∧ t.history = [.read .disabledCache 0#32 0x00002000#32] := ⟨_, rfl, rfl, rfl⟩

/-- V9: an even PC that is not a multiple of four. -/
theorem test_prefetch_misaligned :
    ∃ t, step { machine (.processing (.prefetch 0)) with pc := 0x402#32 } = .next t ∧ t.pf = [0x03040506#32] :=
  ⟨_, rfl, rfl⟩

/-- V5: a bus error on the second vector read. -/
theorem test_bus_error :
    ∃ t, step { readingPc [] with response := .busError } = .next t ∧ t.phase = .faulted (.resetFetchFault 4#32) ∧
      t.isp = 0xDEADBEEF#32 := ⟨_, rfl, rfl, rfl⟩

/-- V16: the five levels at the negation are recorded. -/
theorem test_special_modes :
    ∃ t, step { negated 2 with pinsAtNegation := ⟨true, false, false, true, false⟩ } = .next t ∧
      t.specialModes = ⟨true, false, false, true, false⟩ ∧ t.phase = .hold 128 := ⟨_, rfl, rfl, rfl⟩

/-- V10: the status register as a word, before and after. -/
theorem test_status_word :
    preV1.sr.word = 0xD31F#16 ∧ preV1.sr.enterReset.word = 0x271F#16 := by decide

/-- The lines of rule R44 case 5: 1 + 3 long words make a line (S10). -/
theorem test_line :
    (lineReadTransfers true).length = 4 ∧ ((lineReadTransfers true).map TransferSize.bytes).sum = 16 ∧
    ((lineReadTransfers false).map TransferSize.bytes).sum = 16 := by decide

/-- A write keeps memory sorted and replaces what was there. -/
theorem test_memory_write :
    Memory.writeByte [(3, 1#8), (9, 2#8)] 5 7#8 = [(3, 1#8), (5, 7#8), (9, 2#8)] ∧
    Memory.writeByte [(3, 1#8)] 3 7#8 = [(3, 7#8)] := by decide

/-- The transfer modifier of the vector fetch is the open code, and the acknowledge cycle shows none (rule R42). -/
theorem test_transferModifier (a v : Long) :
    (Event.read .exceptionVectorFetch a v).transferModifier = some Config.resetTm ∧
    Event.iackCycle.transferModifier = none := ⟨rfl, rfl⟩

/-- Rule R45: in the first clock of an unanswered read of address 0 TS, TIP and R/W are asserted, A31 is negated and the
processor drives no data; in the next clock TS is negated. -/
theorem test_transfer_levels :
    ∃ t u, step { machine (.processing .vector0) with response := .noAnswer } = .next t ∧ step t = .next u ∧
      t.level .ts = .asserted ∧ t.level .tip = .asserted ∧ t.level .readWrite = .asserted ∧
      t.level (.address 31) = .negated ∧ t.level (.data 0) = .threeStated ∧
      u.level .ts = .negated ∧ u.level .tip = .asserted := ⟨_, _, rfl, rfl, rfl, rfl, rfl, rfl, rfl, rfl, rfl⟩

/-- Rules R112, R115: MI is asserted in reset, and BR is asserted while the processor waits for the bus. -/
theorem test_reset_levels :
    State.reset.level .mi = .asserted ∧
    ({ machine .awaitBus with bus := .highImpedance } : State).level .br = .asserted := ⟨rfl, rfl⟩

/-- Rule R45 steps 3 and 4: TA ends a transfer, and is negated while none is ended. -/
theorem test_transferAcknowledge :
    Response.normal.transferAcknowledge = true ∧ Response.noAnswer.transferAcknowledge = false := ⟨rfl, rfl⟩

/-- Rule R51, V14: a byte written by another bus master lands. -/
theorem test_master_write :
    ∃ t, step { machine .awaitBus with schedule := [.env (.writeMemory 6#32 8#8)] } = .next t ∧
      t.mem.longAt 4 = some 0x00000800#32 := ⟨_, rfl, by decide⟩

/-! ### States that meet the hypotheses of the obligations -/

/-- RecognisedRstiEntersAsserted, RecognisedRstiAbandonsAndSavesNothing: in `Done`, with a write-back pending. -/
theorem witness_recognisedRsti :
    (recognising .done).processorNext ∧ (recognising .done).ticked.assertionSeen = true ∧
      (recognising .done).phase ≠ .asserted := ⟨trivial, rfl, by decide⟩

/-- The same in a faulted phase and in the hold (HoldAbandonedByRsti, outer hypotheses). -/
theorem witness_recognisedRsti_elsewhere :
    ((recognising (.faulted (.resetOddPc 1#32))).processorNext ∧
      (recognising (.faulted (.resetOddPc 1#32))).ticked.assertionSeen = true) ∧
    ((recognising (.hold 71)).processorNext ∧ (recognising (.hold 71)).phase = .hold 71 ∧
      (recognising (.hold 71)).ticked.assertionSeen = true) := ⟨⟨trivial, rfl⟩, trivial, rfl, rfl⟩

/-- HoldAbandonedByRsti, the state of the next hold. -/
theorem witness_holdAbandoned_inner :
    (negated 2).processorNext ∧ (negated 2).phase = .asserted ∧ (negated 2).ticked.negationSeen = true :=
  ⟨trivial, rfl, rfl⟩

/-- MiAssertedWhileInReset, OutputsQuietWhileInReset, StepKeepsResetInvariant: the first step from reset. -/
theorem witness_reset_step : ∃ t, State.reset.Inv ∧ step State.reset = .next t ∧ t.inReset = true :=
  ⟨_, ⟨rfl, rfl, rfl, rfl, rfl, rfl, rfl, rfl⟩, rfl, rfl⟩

/-- NegatedRstiStartsHold: the clock before the negation is seen, and the clock that sees it. -/
theorem witness_negatedRsti :
    ((negated 2).processorNext ∧ (negated 2).phase = .asserted ∧ (negated 2).ticked.negationSeen = true) ∧
    ((negated 1).processorNext ∧ (negated 1).phase = .asserted ∧ (negated 1).ticked.negationSeen = false) :=
  ⟨⟨trivial, rfl, rfl⟩, trivial, rfl, rfl⟩

/-- HoldCountsDown: the first and the last clock of the count. -/
theorem witness_holdCountsDown :
    ((machine (.hold 128)).undisturbed ∧ (machine (.hold 128)).phase = .hold (127 + 1)) ∧
    ((machine (.hold 1)).undisturbed ∧ (machine (.hold 1)).phase = .hold (0 + 1)) :=
  ⟨⟨⟨trivial, rfl⟩, rfl⟩, ⟨trivial, rfl⟩, rfl⟩

/-- HoldLastsItsClocks: none and all of the 128 clocks. -/
theorem witness_holdLasts :
    (machine (.hold 128)).schedule = [] ∧ (machine (.hold 128)).rsti = false ∧
      (machine (.hold 128)).phase = .hold 128 ∧ 0 ≤ 128 ∧ 128 ≤ 128 := ⟨rfl, rfl, rfl, by decide, by decide⟩

/-- DutifulRstiPulseIsSeen: RSTI asserted exactly the minimum time. -/
theorem witness_dutifulPulse :
    (EnvMove.negateRsti 0 ModePins.negated).allowed
      { machine .running with rsti := true, rstiAge := Config.tRstiMin } ∧
    ({ machine .running with rsti := true, rstiAge := Config.tRstiMin } : State).rstiLate = 0 :=
  ⟨⟨rfl, le_refl _⟩, rfl⟩

/-- RstiIsRecognisedAfterSynchronisation: the last clock in which each change is not seen, and the first in which it is. -/
theorem witness_synchronisation :
    (∃ t, step { recognising (.hold 9) with rstiAge := 1 } = .next t) ∧ (1 < Config.tSync + 0) ∧
    (∃ t, step (recognising (.hold 9)) = .next t) ∧ (Config.tSync + 0 ≤ 2) ∧
    (∃ t, step (negated 1) = .next t) ∧ (∃ t, step (negated 2) = .next t) :=
  ⟨⟨_, rfl⟩, by decide, ⟨_, rfl⟩, by decide, ⟨_, rfl⟩, _, rfl⟩

/-- The five statements about the end of the hold. -/
theorem witness_holdEnd : preV1.undisturbed ∧ preV1.phase = .hold 0 := ⟨⟨trivial, rfl⟩, rfl⟩

/-- AwaitBusWaitsForGrant: without and with the grant. -/
theorem witness_awaitBus :
    (({ machine .awaitBus with bg := false } : State).undisturbed ∧
      ({ machine .awaitBus with bg := false } : State).phase = .awaitBus ∧
      ({ machine .awaitBus with bg := false } : State).bg = false) ∧
    ((machine .awaitBus).undisturbed ∧ (machine .awaitBus).phase = .awaitBus ∧ (machine .awaitBus).bg = true) :=
  ⟨⟨⟨trivial, rfl⟩, rfl, rfl⟩, ⟨trivial, rfl⟩, rfl, rfl⟩

/-- AwaitBusSignalsAreHighImpedance: at the end of the hold. -/
theorem witness_awaitBus_signals :
    ({ machine (.hold 0) with mem := [] } : State).Inv ∧
      ∃ t, step { machine (.hold 0) with mem := [] } = .next t ∧ t.phase = .awaitBus :=
  ⟨⟨rfl, ⟨rfl, rfl, rfl, rfl, rfl, rfl, rfl⟩, by decide⟩, _, rfl, rfl⟩

/-- AcknowledgeCycleGivesVectorZero: with and without the bus. -/
theorem witness_acknowledge :
    ((machine (.processing .iack)).undisturbed ∧ (machine (.processing .iack)).phase = .processing .iack ∧
      (machine (.processing .iack)).bg = true) ∧
    (({ machine (.processing .iack) with bg := false } : State).undisturbed ∧
      ({ machine (.processing .iack) with bg := false } : State).bg = false) :=
  ⟨⟨⟨trivial, rfl⟩, rfl, rfl⟩, ⟨trivial, rfl⟩, rfl⟩

/-- FirstVectorReadIsKept. -/
theorem witness_firstVector :
    (machine (.processing .vector0)).undisturbed ∧ (machine (.processing .vector0)).phase = .processing .vector0 ∧
      (machine (.processing .vector0)).answers
        ((machine (.processing .vector0)).vbr + BitVec.ofNat 32 (4 * (machine (.processing .vector0)).vec)) 0x2000#32 :=
  ⟨⟨trivial, rfl⟩, rfl, rfl, rfl, rfl, by decide⟩

/-- SecondVectorReadLoadsIspAndPc: an even and an odd PC. -/
theorem witness_secondVector :
    ((readingPc [0#8, 0#8, 4#8, 0#8]).undisturbed ∧
      (readingPc [0#8, 0#8, 4#8, 0#8]).phase = .processing (.vector1 0x2000#32) ∧
      (readingPc [0#8, 0#8, 4#8, 0#8]).answers
        ((readingPc [0#8, 0#8, 4#8, 0#8]).vbr + BitVec.ofNat 32 (4 * (readingPc [0#8, 0#8, 4#8, 0#8]).vec) + 4)
        0x400#32) ∧
    ((readingPc [0#8, 0#8, 4#8, 1#8]).undisturbed ∧
      (readingPc [0#8, 0#8, 4#8, 1#8]).phase = .processing (.vector1 0x2000#32) ∧
      (readingPc [0#8, 0#8, 4#8, 1#8]).answers
        ((readingPc [0#8, 0#8, 4#8, 1#8]).vbr + BitVec.ofNat 32 (4 * (readingPc [0#8, 0#8, 4#8, 1#8]).vec) + 4)
        0x401#32) :=
  ⟨⟨⟨trivial, rfl⟩, rfl, rfl, rfl, rfl, by decide⟩, ⟨trivial, rfl⟩, rfl, rfl, rfl, rfl, by decide⟩

/-- PrefetchReadJoinsPf: the first and the third read. -/
theorem witness_prefetch :
    ((machine (.processing (.prefetch 0))).undisturbed ∧ 0 + 1 < 4 ∧
      (machine (.processing (.prefetch 0))).phase = .processing (.prefetch ⟨0, by omega⟩) ∧
      (machine (.processing (.prefetch 0))).answers
        ((machine (.processing (.prefetch 0))).pc + BitVec.ofNat 32 (4 * 0)) 0x01020304#32) ∧
    ((machine (.processing (.prefetch 2))).undisturbed ∧ 2 + 1 < 4 ∧
      (machine (.processing (.prefetch 2))).phase = .processing (.prefetch ⟨2, by omega⟩) ∧
      (machine (.processing (.prefetch 2))).answers
        ((machine (.processing (.prefetch 2))).pc + BitVec.ofNat 32 (4 * 2)) 0x090A0B0C#32) :=
  ⟨⟨⟨trivial, rfl⟩, by decide, rfl, rfl, rfl, rfl, by decide⟩,
    ⟨trivial, rfl⟩, by decide, rfl, rfl, rfl, rfl, by decide⟩

/-- FourthPrefetchConcludes. -/
theorem witness_fourthPrefetch :
    beforeLast.undisturbed ∧ beforeLast.phase = .processing (.prefetch 3) ∧
      beforeLast.answers (beforeLast.pc + 12) 0x0D0E0F10#32 := ⟨⟨trivial, rfl⟩, rfl, rfl, rfl, rfl, by decide⟩

/-- FailedReadIsResetFetchFault: a bus error at the vector, no memory at the prefetch. -/
theorem witness_failedRead :
    (({ readingPc [] with response := .busError } : State).undisturbed ∧
      ({ readingPc [] with response := .busError } : State).phase = .processing (.vector1 0x2000#32) ∧
      ({ readingPc [] with response := .busError } : State).eventAddr (.vector1 0x2000#32) = some 4#32 ∧
      ({ readingPc [] with response := .busError } : State).failsAt 4#32) ∧
    (({ machine (.processing (.prefetch 3)) with mem := [] } : State).undisturbed ∧
      ({ machine (.processing (.prefetch 3)) with mem := [] } : State).phase = .processing (.prefetch 3) ∧
      ({ machine (.processing (.prefetch 3)) with mem := [] } : State).eventAddr (.prefetch 3) = some 0x40C#32 ∧
      ({ machine (.processing (.prefetch 3)) with mem := [] } : State).failsAt 0x40C#32) :=
  ⟨⟨⟨trivial, rfl⟩, rfl, by decide, rfl, rfl, .inl rfl⟩, ⟨trivial, rfl⟩, rfl, by decide, rfl, rfl, .inr ⟨rfl, rfl⟩⟩

/-- The machine before the first vector read with a bus that does not end the transfer. -/
def idle (bg : Bool) (r : Response) : State := { machine (.processing .vector0) with bg := bg, response := r }

/-- UnansweredReadWaits: no bus, a retry, no answer in the first clock and in a later one. -/
theorem witness_unanswered :
    ((idle false .normal).undisturbed ∧ (idle false .normal).phase = .processing .vector0 ∧
      (idle false .normal).eventAddr .vector0 = some 0#32 ∧ (idle false .normal).busDenied) ∧
    ((idle true .retry).undisturbed ∧ (idle true .retry).retried) ∧
    ((idle true .noAnswer).undisturbed ∧ (idle true .noAnswer).unanswered) ∧
    (({ idle true .noAnswer with bus := .readTransfer .exceptionVectorFetch 0#32 true } : State).undisturbed ∧
      ({ idle true .noAnswer with bus := .readTransfer .exceptionVectorFetch 0#32 true } : State).unanswered) :=
  ⟨⟨⟨trivial, rfl⟩, rfl, by decide, rfl, rfl, by decide⟩, ⟨⟨trivial, rfl⟩, rfl, rfl, rfl⟩,
    ⟨⟨trivial, rfl⟩, rfl, rfl, rfl⟩, ⟨trivial, rfl⟩, rfl, rfl, rfl⟩

/-- Before the first vector read with its transfer on the bus in its first clock, the bus taken away. -/
def cutOff (r : Response) : State :=
  { idle false r with bus := .readTransfer .exceptionVectorFetch 0#32 true }

/-- TransferStartLastsOneClock: a transfer that is not ended, and one that is, in the clock after the grant is lost. -/
theorem witness_transferStart :
    (cutOff .noAnswer).undisturbed ∧ (cutOff .noAnswer).phase = .processing .vector0 ∧
      (cutOff .noAnswer).eventAddr .vector0 ≠ none ∧
      (cutOff .noAnswer).bus = .readTransfer .exceptionVectorFetch 0#32 true ∧
      (∃ t, step (cutOff .noAnswer) = .next t) ∧ ∃ t, step (cutOff .normal) = .next t :=
  ⟨⟨trivial, rfl⟩, rfl, by decide, rfl, ⟨_, rfl⟩, _, rfl⟩

/-- Rule R45: TS is asserted for one clock although the bus is taken away, and the device's answer still ends the
transfer. -/
theorem test_transfer_outlives_grant :
    (∃ t, step (cutOff .noAnswer) = .next t ∧ t.level .ts = .negated ∧ t.level .tip = .asserted) ∧
    (∃ t, step (cutOff .normal) = .next t ∧ t.phase = .processing (.vector1 0x2000#32)) :=
  ⟨⟨_, rfl, rfl, rfl⟩, _, rfl, rfl⟩

/-- The acknowledge cycle on the bus, answered or not; the bus answers reads. -/
def acknowledgeCycle (answered : Bool) : State :=
  { machine (.processing .vector0) with
    bus := .iackCycle, iackAnswered := answered, history := [.iackCycle], mi := .ordinary,
    sr := ⟨false, false, true, false, 7#3, ⟨true, true, true, true, true⟩⟩ }

/-- AcknowledgeCycleWaitsForAnswer: before and after the answer. -/
theorem witness_acknowledgeCycle :
    ((acknowledgeCycle false).undisturbed ∧ (acknowledgeCycle false).phase = .processing .vector0 ∧
      (acknowledgeCycle false).eventAddr .vector0 = some 0#32 ∧ (acknowledgeCycle false).acknowledging ∧
      (acknowledgeCycle false).iackAnswered = false) ∧
    ((acknowledgeCycle true).undisturbed ∧ (acknowledgeCycle true).acknowledging ∧
      (acknowledgeCycle true).iackAnswered = true) :=
  ⟨⟨⟨trivial, rfl⟩, rfl, by decide, ⟨rfl, rfl⟩, rfl⟩, ⟨trivial, rfl⟩, ⟨rfl, rfl⟩, rfl⟩

/-- StepKeepsResetInvariant with the acknowledge cycle on the bus. -/
theorem witness_invariant_acknowledge : (acknowledgeCycle false).Inv :=
  ⟨by decide, ⟨rfl, rfl, rfl, rfl, rfl, rfl, rfl, rfl, rfl⟩, ⟨rfl, rfl, rfl, rfl⟩, .inr (.inl ⟨rfl, rfl⟩), rfl, rfl, rfl⟩

/-- Rule R126: the first vector read starts only when the acknowledge cycle is answered, by its own move. -/
theorem test_acknowledge_answered :
    (∃ t, step { machine (.processing .iack) with iackAnswered := false } = .next t ∧ t.bus = .iackCycle ∧
      t.history = [.iackCycle]) ∧
    (∃ t u, step { acknowledgeCycle false with schedule := [.env .answerRead, .clock] } = .next t ∧
      step t = .next u ∧ u.bus = .iackCycle ∧ u.history = [.iackCycle]) ∧
    (∃ t u v, step { acknowledgeCycle false with schedule := [.env (.answerIack 7), .clock, .clock] } = .next t ∧
      step t = .next u ∧ step u = .next v ∧ v.phase = .processing (.vector1 0x2000#32)) :=
  ⟨⟨_, rfl, rfl, rfl⟩, ⟨_, _, rfl, rfl, rfl, rfl⟩, _, _, _, rfl, rfl, rfl, rfl⟩

/-- Rule R126: no other master writes in the middle of an aligned transfer, and the bus is taken only between two
events. -/
theorem test_allowed :
    ¬ (EnvMove.writeMemory 0#32 1#8).allowed (cutOff .noAnswer) ∧ ¬ EnvMove.takeBus.allowed (cutOff .noAnswer) :=
  ⟨fun h => h _ _ _ rfl rfl, fun h => by cases h.2⟩

/-- A machine with one transparent translation register enabled. -/
def translating (p : Phase) : State :=
  { machine p with ttrs := ⟨⟨false, 0#31⟩, ⟨false, 0#31⟩, ⟨false, 0#31⟩, ⟨true, 0#31⟩⟩ }

/-- TranslatedAccessIsRefused: a read of reset exception processing, and a fetch. -/
theorem witness_translated :
    ((translating (.processing (.prefetch 3))).undisturbed ∧
      (translating (.processing (.prefetch 3))).translationOn = true ∧
      ∃ e a, (translating (.processing (.prefetch 3))).phase = .processing e ∧
        (translating (.processing (.prefetch 3))).eventAddr e = some a) ∧
    ((translating .running).undisturbed ∧ (translating .running).translationOn = true ∧
      (translating .running).phase = .running ∧ (translating .running).rsti = false) :=
  ⟨⟨⟨trivial, rfl⟩, rfl, .prefetch 3, _, rfl, rfl⟩, ⟨trivial, rfl⟩, rfl, rfl, rfl⟩

/-- RecordedReadsBypassCaches: the acknowledge cycle, a read, a failed read, and an event the history already holds. -/
theorem witness_recorded :
    (∃ t, step (machine (.processing .iack)) = .next t ∧
      t.history = (machine (.processing .iack)).history ++ [.iackCycle]) ∧
    (∃ t, step (machine (.processing .vector0)) = .next t ∧
      t.history = (machine (.processing .vector0)).history ++ [.read .exceptionVectorFetch 0#32 0x2000#32]) ∧
    (∃ t, step (idle true .busError) = .next t ∧
      t.history = (idle true .busError).history ++ [.readFailed .exceptionVectorFetch 0#32]) ∧
    (∃ t, step { machine (.processing .iack) with history := [.iackCycle] } = .next t ∧
      t.history = [.iackCycle] ++ [.iackCycle]) :=
  ⟨⟨_, rfl, rfl⟩, ⟨_, rfl, rfl⟩, ⟨_, rfl, rfl⟩, _, rfl, rfl⟩

/-- BusEventsOnlyInProcessing: a bus event, the end of a transfer without the grant, and the history cleared by a new
reset. -/
theorem witness_busEvents :
    (∃ t, step (machine (.processing .iack)) = .next t ∧ t.history ≠ (machine (.processing .iack)).history) ∧
    (∃ t, step (cutOff .normal) = .next t ∧ t.history ≠ (cutOff .normal).history) ∧
    (∃ t, step { recognising .done with history := [.iackCycle] } = .next t ∧ t.history ≠ [.iackCycle]) :=
  ⟨⟨_, rfl, List.cons_ne_nil _ _⟩, ⟨_, rfl, List.cons_ne_nil _ _⟩, _, rfl, (List.cons_ne_nil _ _).symm⟩

/-- StepMemoryFrame, PageSizeSurvivesEveryStep, EnvironmentNeverWritesRegisters: a write of another bus master to the byte of
the frame's second clause, and a recognised RSTI with a write-back pending. -/
theorem witness_memoryFrame :
    (∃ t, step { machine .awaitBus with schedule := [.env (.writeMemory 4#32 9#8)] } = .next t ∧
      t.mem.readByte 4 = some 9#8) ∧
    (∃ t, step (recognising .done) = .next t ∧ t.phase = .asserted) := ⟨⟨_, rfl, by decide⟩, _, rfl, rfl⟩

/-- DoneStateIsTheResetState, and StepKeepsResetInvariant at its longest step: the last read of reset exception processing. -/
theorem witness_booted : beforeLast.Inv ∧ ∃ t, step beforeLast = .next t ∧ t.final :=
  ⟨⟨by decide, ⟨rfl, rfl, rfl, rfl, rfl, rfl, rfl, rfl, rfl⟩, ⟨rfl, rfl, rfl, rfl⟩, .inl rfl, rfl, rfl, rfl⟩, _, rfl, rfl⟩

/-- StepKeepsResetInvariant with a transfer on the bus, not ended. -/
theorem witness_invariant_transfer :
    ({ beforeLast with bus := .readTransfer .disabledCache 0x40C#32 true } : State).Inv :=
  ⟨by decide, ⟨rfl, rfl, rfl, rfl, rfl, rfl, rfl, rfl, rfl⟩, ⟨rfl, rfl, rfl, rfl⟩,
    .inr (.inr ⟨_, true, rfl, rfl⟩), rfl, rfl, rfl⟩

/-- OrdinaryBootConcludes, at both ends of the hold. -/
theorem witness_ordinaryBoot (n : Nat) :
    (machine (.hold n)).phase = .hold n ∧ (machine (.hold n)).schedule = [] ∧ (machine (.hold n)).rsti = false ∧
      (machine (.hold n)).bg = true ∧ (machine (.hold n)).iackAnswered = true ∧ (machine (.hold n)).response = .normal ∧
      (machine (.hold n)).history = [] ∧
      (machine (.hold n)).pf = [] ∧ (machine (.hold n)).mem.longAt 0 = some 0x2000#32 ∧
      (machine (.hold n)).mem.longAt 4 = some 0x400#32 ∧ (0x400#32).getLsbD 0 = false ∧
      (machine (.hold n)).mem.longAt 0x400#32 = some 0x01020304#32 ∧
      (machine (.hold n)).mem.longAt (0x400#32 + 4) = some 0x05060708#32 ∧
      (machine (.hold n)).mem.longAt (0x400#32 + 8) = some 0x090A0B0C#32 ∧
      (machine (.hold n)).mem.longAt (0x400#32 + 12) = some 0x0D0E0F10#32 := by
  refine ⟨rfl, rfl, rfl, rfl, rfl, rfl, rfl, rfl, ?_⟩
  show image.longAt 0 = _ ∧ image.longAt 4 = _ ∧ _ ∧ image.longAt _ = _ ∧ image.longAt _ = _ ∧ image.longAt _ = _ ∧
    image.longAt _ = _
  decide

/-- DoneOnlyAfterFourthPrefetch: by the fourth prefetch read, and staying at `Done` in a move of the environment. -/
theorem witness_done :
    (∃ t, step beforeLast = .next t ∧ t.phase = .done) ∧
    (∃ t, step { booted with schedule := [.env .grantBus] } = .next t ∧ t.phase = .done) := ⟨⟨_, rfl, rfl⟩, _, rfl, rfl⟩

/-- The fault of V4 standing. -/
def standing (rsti : Bool) (l : List Turn) : State :=
  { machine (.faulted (.resetOddPc 0x401#32)) with rsti := rsti, rstiAge := 0, schedule := l }

/-- FaultedStateWaitsForRsti: a move to come, RSTI on its way, and nothing to come. -/
theorem witness_faulted :
    ((standing false [.clock, .clock]).undisturbed ∧ (standing false [.clock, .clock]).schedule.tail ≠ []) ∧
    ((standing true []).undisturbed ∧ (standing true []).rsti = true) ∧
    ((standing false []).undisturbed ∧ (standing false []).phase = .faulted (.resetOddPc 0x401#32) ∧
      (standing false []).rsti = false ∧ (standing false []).schedule.tail = []) :=
  ⟨⟨⟨trivial, rfl⟩, List.cons_ne_nil _ _⟩, ⟨⟨trivial, rfl⟩, rfl⟩, ⟨trivial, rfl⟩, rfl, rfl, rfl⟩

/-- EnvironmentNeverWritesRegisters. -/
theorem witness_envMove : State.reset.schedule = .env (.negateRsti 0 ModePins.negated) :: State.reset.schedule.tail := rfl

/-- GeneralRegisterReadAfterWrite: two different registers, A7 among them. -/
theorem witness_registers : GeneralReg.addr 7#3 ≠ GeneralReg.data 7#3 ∧ GeneralReg.addr 7#3 ≠ GeneralReg.addr 6#3 := by
  decide

/-- A7 written in the interrupt mode is ISP (D22). -/
theorem test_write_a7 : (booted.writeReg (.addr 7#3) 5#32).isp = 5#32 := rfl

/-- DecodeOfEncode. -/
theorem witness_wellFormed :
    (Instr.moves 2#2 7#3 7#3 (.addr 7#3) .registerToMemory).wellFormed = true ∧ Instr.rte.wellFormed = true := by decide

/-- EncodeOfDecode. -/
theorem witness_decodes :
    decode [0x0E#8, 0x90#8, 0x88#8, 0x00#8, 0x4E#8] =
      .ok (.moves 2#2 2#3 0#3 (.addr 0#3) .registerToMemory, [0x4E#8]) := by decide

/-- DecoderRefusesEveryOtherWord: $4E72, next to RTE, and $0ED0. -/
theorem witness_otherWord :
    (∀ row ∈ opcodeTable, (0x4E#8 ++ 0x72#8 : Word) &&& row.mask ≠ row.fixedBits) ∧
    (0x0E#8 = 0x0E#8 ∧ (0xD0#8 : Byte).extractLsb' 6 2 = 3#2) := by decide

/-- DecoderVerdictOnEveryWord: both verdicts. -/
theorem witness_verdict :
    decode (0x4E#8 :: 0x73#8 :: []) = .ok (.rte, []) ∧ decode (0x0E#8 :: 0x10#8 :: []) = .error .notInSource := by decide

/-- A machine in `Running` with MOVES.L A0,(A0) at PC, and PF holding `pf`. -/
def atMoves (pf : List Long) : State :=
  { machine .running with mem := lay [] 0x400#32 [0x0E#8, 0x90#8, 0x88#8, 0x00#8], pf := pf }

/-- StepRunsDecodedInstruction. -/
theorem witness_runs :
    ((atMoves []).processorNext ∧ (atMoves []).rsti = false ∧ (atMoves []).phase = .running ∧
      (atMoves []).ticked.fetch = .bytes [0x0E#8, 0x90#8, 0x88#8, 0x00#8]) ∧
    decode [0x0E#8, 0x90#8, 0x88#8, 0x00#8] = .ok (.moves 2#2 2#3 0#3 (.addr 0#3) .registerToMemory, []) :=
  ⟨⟨trivial, rfl, rfl, rfl⟩, by decide⟩

/-- FetchReadsAtPc: nothing prefetched, and a prefetched long word that memory still holds. -/
theorem witness_fetch :
    ((atMoves []).translationOn = false ∧ (atMoves []).cacr.ie = false ∧ (atMoves []).bg = true ∧
      (atMoves []).response = .normal ∧ (atMoves []).writeBacks = [] ∧
      (atMoves []).mem.longAt (atMoves []).pc = some 0x0E908800#32 ∧ (atMoves []).pf = []) ∧
    (atMoves [0x0E908800#32]).pf.head? = some 0x0E908800#32 :=
  ⟨⟨rfl, rfl, rfl, rfl, rfl, by decide, rfl⟩, rfl⟩

/-- FirstInstructionIsRefused: after a boot, and executing bytes that are no instruction of the table. -/
theorem witness_firstInstruction :
    (booted.undisturbed ∧ booted.phase = .done) ∧
    ((machine .running).processorNext ∧ (machine .running).rsti = false ∧ (machine .running).phase = .running ∧
      (machine .running).translationOn = false ∧ (machine .running).bg = true ∧
      (machine .running).response = .normal ∧ (machine .running).writeBacks = [] ∧
      (machine .running).mem.longAt (machine .running).pc = some 0x01020304#32) :=
  ⟨⟨⟨trivial, rfl⟩, rfl⟩, trivial, rfl, rfl, rfl, rfl, rfl, rfl, by decide⟩

/-- PrefetchedWordsAreNeverDecoded: PF holds an RTE that memory does not, and PF holds what memory holds. -/
theorem witness_prefetched :
    ((atMoves [0x4E734E73#32]).phase = .running ∧ (atMoves [0x4E734E73#32]).processorNext ∧
      (atMoves [0x4E734E73#32]).ticked.fetchMemory.bytesFrom 0x400#32 4 ≠ longBytes 0x4E734E73#32) ∧
    ((atMoves [0x0E908800#32]).phase = .running ∧ (atMoves [0x0E908800#32]).processorNext) :=
  ⟨⟨rfl, trivial, by decide⟩, rfl, trivial⟩

/-- PlacedInstructionRuns. -/
theorem witness_placed : decodeTableWord 32 0x00000E10 = some (.moves 0#2 2#3 0#3 (.data 0#3) .memoryToRegister) := by
  decide

end Sys2Proof.Tests
end

section
namespace Sys2Proof.Machine

/-! ### The two instructions the spec names (40_named_instructions.md rules R70, R71)

Each is settled from two facts: which meaning `exec` gives the instruction, and that this meaning is the refusal of the
rule's pseudocode. The cause of its reads is one that rule R44 lists as bypassing the caches. -/

@[simp] theorem exec_moves (size : BitVec 2) (mode reg : BitVec 3) (r : GeneralReg) (dir : Direction) (s : State) :
    exec (.moves size mode reg r dir) s = execMoves size mode reg r dir s := rfl

@[simp] theorem exec_rte (s : State) : exec .rte s = execRte s := rfl

@[simp] theorem execMoves_refused (size : BitVec 2) (mode reg : BitVec 3) (r : GeneralReg) (dir : Direction)
    (s : State) : execMoves size mode reg r dir s = .refused .movesNotInSource := rfl

@[simp] theorem execRte_refused (s : State) : execRte s = .refused .rteNotInSource := rfl

/-- Rule R44 case 3, "accesses to an alternate logical address space via the MOVES instruction". -/
@[simp] theorem movesReadCause_bypassCase : movesReadCause.bypassCase = some 3 := rfl

/-- Rule R44 case 4, "exception stack deallocation for an RTE instruction". -/
@[simp] theorem rteReadCause_bypassCase : rteReadCause.bypassCase = some 4 := rfl

/-- Settles O43: `exec` hands every MOVES to `execMoves`, which refuses whatever the operands and the state. -/
theorem movesIsRefused : Obligations.MovesIsRefused := by
  refine ⟨fun size mode reg r dir s => ?_, movesReadCause_bypassCase⟩
  rw [exec_moves, execMoves_refused]

/-- Settles O44: `exec` hands RTE to `execRte`, which refuses whatever the state. -/
theorem rteIsRefused : Obligations.RteIsRefused := by
  refine ⟨fun s => ?_, rteReadCause_bypassCase⟩
  rw [exec_rte, execRte_refused]

end Sys2Proof.Machine
end

section
namespace Sys2Proof.Machine

/-! ### Facts about the operations and the invariant's terms

What the sections below share: the frame of the prefetch store and of the rows of rule R118, the invariant phase by
phase, and how the history of the prefetch reads grows. -/

section

variable {s t : State}

@[simp] theorem storePrefetch_mem (k : Fin 4) (w : Long) : (s.storePrefetch k w).mem = s.mem := by
  unfold State.storePrefetch
  split <;> rfl

@[simp] theorem storePrefetch_tc_p (k : Fin 4) (w : Long) : (s.storePrefetch k w).tc.p = s.tc.p := by
  unfold State.storePrefetch
  split <;> rfl

@[simp] theorem storePrefetch_bus (k : Fin 4) (w : Long) : (s.storePrefetch k w).bus = s.bus := by
  unfold State.storePrefetch
  split <;> rfl

@[simp] theorem storePrefetch_history (k : Fin 4) (w : Long) : (s.storePrefetch k w).history = s.history := by
  unfold State.storePrefetch
  split <;> rfl

@[simp] theorem storePrefetch_schedule (k : Fin 4) (w : Long) : (s.storePrefetch k w).schedule = s.schedule := by
  unfold State.storePrefetch
  split <;> rfl

@[simp] theorem storePrefetch_rsti (k : Fin 4) (w : Long) : (s.storePrefetch k w).rsti = s.rsti := by
  unfold State.storePrefetch
  split <;> rfl

@[simp] theorem storePrefetch_bg (k : Fin 4) (w : Long) : (s.storePrefetch k w).bg = s.bg := by
  unfold State.storePrefetch
  split <;> rfl

@[simp] theorem storePrefetch_iackAnswered (k : Fin 4) (w : Long) :
    (s.storePrefetch k w).iackAnswered = s.iackAnswered := by
  unfold State.storePrefetch
  split <;> rfl

@[simp] theorem storePrefetch_response (k : Fin 4) (w : Long) : (s.storePrefetch k w).response = s.response := by
  unfold State.storePrefetch
  split <;> rfl

/-- No row of rule R118 writes memory. -/
theorem RowEffect.mem_eq (h : RowEffect s t) : t.mem = s.mem := by
  cases h with
  | prefetch k w hp ha => simp
  | _ => rfl

/-! The invariant in each phase. -/

theorem phaseInv_asserted (h : s.phase = .asserted) : s.phaseInv ↔ s.quietInReset := by
  simp only [State.phaseInv, h]

theorem phaseInv_hold {n : Nat} (h : s.phase = .hold n) : s.phaseInv ↔ s.quietInReset ∧ n ≤ Config.tHold := by
  simp only [State.phaseInv, h]

theorem phaseInv_awaitBus (h : s.phase = .awaitBus) :
    s.phaseInv ↔ s.registersReset ∧ s.drained ∧ s.bus = .highImpedance ∧ s.history = [] ∧ s.pf = [] := by
  simp only [State.phaseInv, h]

theorem phaseInv_processing {e : BusEvent} (h : s.phase = .processing e) :
    s.phaseInv ↔ s.registersReset ∧ s.drained ∧ s.ownsBus e ∧ s.beforeEvent e := by
  simp only [State.phaseInv, h]

theorem phaseInv_done (h : s.phase = .done) :
    s.phaseInv ↔ s.registersReset ∧ s.drained ∧ s.bus = .implicitOwnership ∧ s.pc.getLsbD 0 = false ∧
      s.pf.length = 4 ∧ s.history = s.resetHistory := by
  simp only [State.phaseInv, h]

theorem phaseInv_faulted {f : Fault} (h : s.phase = .faulted f) :
    s.phaseInv ↔ s.registersReset ∧ s.drained ∧ s.bus = .implicitOwnership := by
  simp only [State.phaseInv, h]

/-- In reset the signals are quiet and nothing is pending. -/
theorem quietInReset_of_inReset (hi : s.phaseInv) (hr : s.inReset = true) : s.quietInReset := by
  unfold State.inReset at hr
  split at hr
  · next hp => exact (phaseInv_asserted hp).1 hi
  · next n hp => exact ((phaseInv_hold hp).1 hi).1
  · cases hr

theorem vbr_of_registersReset (h : s.registersReset) : s.vbr = 0#32 := by
  obtain ⟨-, -, -, -, -, hv, -⟩ := h
  exact hv

/-- The reset exception vector is at address 0 once VBR and the vector number are zero (rule R87). -/
theorem vectorBase_eq_zero (hb : s.vbr = 0#32) (hv : s.vec = 0) : s.vectorBase = 0#32 := by
  simp [State.vectorBase, hb, hv]

/-- One more prefetch read appends its event, at its own address (rules R49, R88). -/
theorem prefetchEvents_append (a w : Long) (l : List Long) :
    prefetchEvents a (l ++ [w]) =
      prefetchEvents a l ++ [.read .disabledCache (a + BitVec.ofNat 32 (4 * l.length)) w] := by
  induction l generalizing a with
  | nil => simp [prefetchEvents]
  | cons x l ih =>
    have ha : a + 4 + BitVec.ofNat 32 (4 * l.length) = a + BitVec.ofNat 32 (4 * (l.length + 1)) := by
      rw [BitVec.add_assoc, Nat.mul_add, Nat.add_comm (4 * _), BitVec.ofNat_add]
      rfl
    simp only [List.cons_append, prefetchEvents, ih, ha, List.length_cons]

/-- A transfer held on the bus is that of the event it was begun for (rule R45). -/
theorem holdTransfer_bus (cause : ReadCause) (a : Long) :
    ∃ start, (s.holdTransfer cause a).bus = .readTransfer cause a start := by
  obtain ⟨-, h⟩ | ⟨-, h⟩ := holdTransfer_cases s.bus cause a
  · exact ⟨_, h⟩
  · exact ⟨_, h⟩

/-- Waiting for the answer to the acknowledge cycle keeps the ownership of the bus (rules R86, R126). -/
theorem ownsBus_awaitAcknowledge {e : BusEvent} (h : s.ownsBus e) : s.awaitAcknowledge.ownsBus e := by
  cases hk : s.iackAnswered with
  | true => exact .inl (by rw [awaitAcknowledge_of_answered hk])
  | false => rwa [awaitAcknowledge_of_unanswered hk]

end

/-! ### The invariant of the reset sequence

Each agent keeps `State.Inv`: the environment moves nothing that it speaks of but memory, a recognised RSTI brings the
quiet state of the reset period, and each row of rule R118 leads from one phase's facts to the next phase's. -/

section

variable {s t : State}

/-- A move of the environment keeps the canonical form of memory. -/
theorem applyEnv_wf (m : EnvMove) (h : s.mem.wf = true) : (s.applyEnv m).mem.wf = true := by
  obtain hm | ⟨x, b, -, hm⟩ := applyEnv_mem s m
  · rwa [hm]
  · rw [hm]
    exact Memory.wf_writeByte _ _ (Long.toNat_lt_addressSpace x) h

/-- The phase's facts are about nothing that the environment moves. -/
theorem applyEnv_phaseInv (m : EnvMove) (h : s.phaseInv) : (s.applyEnv m).phaseInv := by
  rw [applyEnv_frame]
  exact h

theorem abandon_inv (h : s.mem.wf = true) : s.abandon.Inv :=
  ⟨settleWriteBacks_wf _ _ _ _ h, rfl, rfl, rfl, rfl, rfl, rfl, rfl⟩

theorem endHold_registersReset : s.endHold.registersReset :=
  ⟨rfl, rfl, rfl, rfl, rfl, rfl, rfl, rfl, rfl⟩

/-! What the history and PF hold before the next event, once an event is over. -/

theorem acknowledge_beforeEvent (h : s.beforeEvent .iack) : s.acknowledge.beforeEvent .vector0 := by
  obtain ⟨hh, hpf⟩ := h
  exact ⟨by simp [hh], rfl, hpf⟩

theorem readVector0_beforeEvent {v : Long} (hb : s.vbr = 0#32) (h : s.beforeEvent .vector0) :
    (s.endTransfer.record (.read .exceptionVectorFetch s.vectorBase v)).beforeEvent (.vector1 v) := by
  obtain ⟨hh, hv, hpf⟩ := h
  exact ⟨by simp [hh, vectorBase_eq_zero hb hv], hv, hpf⟩

theorem readVector1_beforeEvent {v0 v : Long} (hb : s.vbr = 0#32) (heven : v.getLsbD 0 = false)
    (h : s.beforeEvent (.vector1 v0)) :
    ((s.endTransfer.record (.read .exceptionVectorFetch (s.vectorBase + 4) v)).loadVector v0 v).beforeEvent
      (.prefetch 0) := by
  obtain ⟨hh, hv, hpf⟩ := h
  refine ⟨heven, by simp [hpf], ?_⟩
  simp [State.resetHistory, hh, hpf, vectorBase_eq_zero hb hv, vectorEvents, prefetchEvents]

/-- A prefetch read answered: PC is even still, PF is one long word longer, and the history is that of ISP, PC and PF
(rule R88). -/
theorem prefetch_beforeEvent {k : Fin 4} {w : Long} (h : s.beforeEvent (.prefetch k)) :
    s.pc.getLsbD 0 = false ∧ (s.pf ++ [w]).length = k.val + 1 ∧
      s.history ++ [.read .disabledCache (s.prefetchAddr k) w] =
        vectorEvents s.isp s.pc ++ prefetchEvents s.pc (s.pf ++ [w]) := by
  obtain ⟨heven, hl, hh⟩ := h
  refine ⟨heven, by simp [hl], ?_⟩
  rw [prefetchEvents_append, hl, hh, State.resetHistory, List.append_assoc]
  rfl

/-- A prefetch read answered leads to the next one, or to `Done`. -/
theorem prefetch_phaseInv {k : Fin 4} {w : Long} (hp : s.phase = .processing (.prefetch k)) (hi : s.phaseInv) :
    ((s.endTransfer.record (.read .disabledCache (s.prefetchAddr k) w)).storePrefetch k w).phaseInv := by
  obtain ⟨hr, hd, -, hb⟩ := (phaseInv_processing hp).1 hi
  obtain ⟨heven, hlen, hhist⟩ := prefetch_beforeEvent (w := w) hb
  unfold State.storePrefetch
  split
  · exact ⟨hr, hd, .inl rfl, heven, hlen, hhist⟩
  · exact ⟨hr, hd, rfl, heven, hlen.trans (by omega), hhist⟩

/-- The second vector read answered leads to the first prefetch read, or to the fault of an odd PC (rule R87, D3). -/
theorem readVector1_phaseInv {v0 v : Long} (hp : s.phase = .processing (.vector1 v0)) (hi : s.phaseInv) :
    ((s.endTransfer.record (.read .exceptionVectorFetch (s.vectorBase + 4) v)).loadVector v0 v).phaseInv := by
  obtain ⟨hr, hd, -, hb⟩ := (phaseInv_processing hp).1 hi
  cases hodd : v.getLsbD 0 with
  | true => exact (phaseInv_faulted (if_pos hodd)).2 ⟨hr, hd, rfl⟩
  | false =>
    exact (phaseInv_processing (e := .prefetch 0) (if_neg (ne_true_of_eq_false hodd))).2
      ⟨hr, hd, .inl rfl, readVector1_beforeEvent (vbr_of_registersReset hr) hodd hb⟩

/-- Each row of rule R118 leads from the facts of its phase to those of the next. -/
theorem RowEffect.phaseInv (h : RowEffect s t) (hi : s.phaseInv) : t.phaseInv := by
  cases h with
  | stay => exact hi
  | beginHold hp hn => exact (phaseInv_hold rfl).2 ⟨(phaseInv_asserted hp).1 hi, le_rfl⟩
  | countDown n hp =>
    obtain ⟨hq, hn⟩ := (phaseInv_hold hp).1 hi
    exact ⟨hq, by omega⟩
  | endHold hp =>
    obtain ⟨⟨-, -, hpipe, hsh, hpf, hwb, hh⟩, -⟩ := (phaseInv_hold hp).1 hi
    exact ⟨endHold_registersReset, ⟨rfl, hpipe, hsh, hwb⟩, rfl, hh, hpf⟩
  | takeOwnership hp hb =>
    obtain ⟨hr, hd, -, hh, hpf⟩ := (phaseInv_awaitBus hp).1 hi
    exact ⟨hr, hd, .inl rfl, hh, hpf⟩
  | acknowledge hp hb =>
    obtain ⟨hr, hd, -, hb⟩ := (phaseInv_processing hp).1 hi
    refine ⟨hr, hd, ?_, acknowledge_beforeEvent hb⟩
    cases hk : s.iackAnswered with
    | true => exact .inl (by simp [hk])
    | false => exact .inr (.inl ⟨rfl, by simp [hk]⟩)
  | beginExecution hp => trivial
  | awaitAcknowledge e a hp he ha =>
    obtain ⟨hr, hd, ho, hb⟩ := (phaseInv_processing hp).1 hi
    exact (phaseInv_processing (s := s.awaitAcknowledge) hp).2 ⟨hr, hd, ownsBus_awaitAcknowledge ho, hb⟩
  | retried e a hp he hr =>
    obtain ⟨hr, hd, -, hb⟩ := (phaseInv_processing hp).1 hi
    exact (phaseInv_processing (s := s.endTransfer) hp).2 ⟨hr, hd, .inl rfl, hb⟩
  | unanswered e a hp he hu =>
    obtain ⟨hr, hd, -, hb⟩ := (phaseInv_processing hp).1 hi
    obtain ⟨start, hbus⟩ := holdTransfer_bus (s := s) e.cause a
    exact (phaseInv_processing (s := s.holdTransfer e.cause a) hp).2 ⟨hr, hd, .inr (.inr ⟨a, start, he, hbus⟩), hb⟩
  | readVector0 v hp ha =>
    obtain ⟨hr, hd, -, hb⟩ := (phaseInv_processing hp).1 hi
    exact ⟨hr, hd, .inl rfl, readVector0_beforeEvent (vbr_of_registersReset hr) hb⟩
  | readVector1 v0 v hp ha => exact readVector1_phaseInv hp hi
  | prefetch k w hp ha => exact prefetch_phaseInv hp hi
  | readFails e a hp he hf =>
    obtain ⟨hr, hd, -, -⟩ := (phaseInv_processing hp).1 hi
    exact ⟨hr, hd, rfl⟩

/-- Settles O29: the environment, a recognised RSTI and each row of rule R118 keep the invariant. -/
theorem stepKeepsResetInvariant : Obligations.StepKeepsResetInvariant := by
  intro s t ⟨hm, hi⟩ h
  obtain ⟨m, rest, -, rfl⟩ | ⟨-, -, -, rfl⟩ | ⟨-, hrow⟩ := step_next h
  · exact ⟨applyEnv_wf m hm, applyEnv_phaseInv m hi⟩
  · exact abandon_inv hm
  · exact ⟨hrow.mem_eq ▸ hm, hrow.phaseInv (s := s.ticked) hi⟩

end

end Sys2Proof.Machine
end

section
namespace Sys2Proof

/-! ### The decoder and the encoder (30_encoding.md, rules R63, R64; log 25)

The decoder reads an operation word first: RTE, or MOVES with its extension word, or no row of the table. One lemma says
each case; the fields of the two words of MOVES are read back from what the encoder puts together, and put together from
what the decoder reads. -/

section

variable {w x : Word} {rest : List Byte}

theorem decode_rteWord : decode (wordBytes rteWord ++ rest) = .ok (.rte, rest) := by
  simp [wordBytes, decode, rteWord]

theorem decode_other (hr : w ≠ rteWord) (hm : isMovesWord w = false) :
    decode (wordBytes w ++ rest) = .error .notInSource := by
  simp only [wordBytes, List.cons_append, List.nil_append, decode, append_wordBytes, if_neg hr, hm]
  rfl

theorem ne_rteWord_of_isMovesWord (hm : isMovesWord w = true) : w ≠ rteWord := by
  rintro rfl
  exact absurd hm (by decide)

theorem decode_movesWord (hm : isMovesWord w = true) :
    decode (wordBytes w ++ (wordBytes x ++ rest)) = (decodeMoves w x).map fun i => (i, rest) := by
  have hr := ne_rteWord_of_isMovesWord hm
  simp only [wordBytes, List.cons_append, List.nil_append, decode, append_wordBytes, if_neg hr, hm]
  cases decodeMoves w x <;> rfl

/-- A MOVES word without its extension word is no row of the table (rule R64; log 25). -/
theorem decode_movesWord_short (hm : isMovesWord w = true) (hl : rest.length < 2) :
    decode (wordBytes w ++ rest) = .error .notInSource := by
  have hr := ne_rteWord_of_isMovesWord hm
  match rest, hl with
  | [], _ => simp only [wordBytes, List.cons_append, List.nil_append, decode, append_wordBytes, if_neg hr, hm]; rfl
  | [b], _ => simp only [wordBytes, List.cons_append, List.nil_append, decode, append_wordBytes, if_neg hr, hm]; rfl

/-- Bytes are no whole word, or an operation word and what follows it. -/
theorem bytes_cases (bs : List Byte) : bs.length < 2 ∨ ∃ w rest, bs = wordBytes w ++ rest := by
  match bs with
  | [] => exact .inl (by simp)
  | [_] => exact .inl (by simp)
  | b0 :: b1 :: rest => exact .inr ⟨b0 ++ b1, rest, by rw [wordBytes_append]; rfl⟩

theorem decode_truncated {bs : List Byte} (h : bs.length < 2) : decode bs = .error .truncated := by
  match bs, h with
  | [], _ => rfl
  | [_], _ => rfl

theorem decodeMoves_ok {i : Instr} :
    decodeMoves w x = .ok i ↔ x.extractLsb' 0 11 = 0#11 ∧
      i = .moves (w.extractLsb' 6 2) (w.extractLsb' 3 3) (w.extractLsb' 0 3) (extensionReg x) (extensionDir x) := by
  unfold decodeMoves
  split
  · next h => simp [h, eq_comm]
  · next h => simp [h]

theorem decodeMoves_error {e : DecodeReject} (h : decodeMoves w x = .error e) : e = .notInSource := by
  unfold decodeMoves at h
  split at h
  · cases h
  · cases h
    rfl

/-- An operation word and what follows it: RTE, MOVES with an extension word that fits it, or the one unnamed verdict
(rule R64). -/
theorem decode_word_cases (w : Word) (rest : List Byte) :
    (w = rteWord ∧ decode (wordBytes w ++ rest) = .ok (.rte, rest)) ∨
    (∃ x after i, isMovesWord w = true ∧ rest = wordBytes x ++ after ∧ decodeMoves w x = .ok i ∧
      decode (wordBytes w ++ rest) = .ok (i, after)) ∨
    decode (wordBytes w ++ rest) = .error .notInSource := by
  by_cases hr : w = rteWord
  · subst hr
    exact .inl ⟨rfl, decode_rteWord⟩
  cases hm : isMovesWord w with
  | false => exact .inr (.inr (decode_other hr hm))
  | true =>
    obtain hl | ⟨x, after, rfl⟩ := bytes_cases rest
    · exact .inr (.inr (decode_movesWord_short hm hl))
    · rw [decode_movesWord hm]
      cases hd : decodeMoves w x with
      | error e =>
        cases decodeMoves_error hd
        exact .inr (.inr rfl)
      | ok i => exact .inr (.inl ⟨x, after, i, rfl, rfl, hd, rfl⟩)

/-- Bytes that decode are RTE, or the two words of a MOVES. -/
theorem decode_ok {bs : List Byte} {i : Instr} (h : decode bs = .ok (i, rest)) :
    (bs = wordBytes rteWord ++ rest ∧ i = .rte) ∨
    ∃ w x, bs = wordBytes w ++ (wordBytes x ++ rest) ∧ isMovesWord w = true ∧ decodeMoves w x = .ok i := by
  obtain hl | ⟨w, after, rfl⟩ := bytes_cases bs
  · rw [decode_truncated hl] at h
    cases h
  obtain ⟨rfl, hd⟩ | ⟨x, after', j, hm, rfl, hj, hd⟩ | hd := decode_word_cases w after
  · cases hd.symm.trans h
    exact .inl ⟨rfl, rfl⟩
  · cases hd.symm.trans h
    exact .inr ⟨w, x, rfl, hm, hj⟩
  · cases hd.symm.trans h

end

/-! The fields of the operation word of MOVES. -/

section

variable (size : BitVec 2) (mode reg : BitVec 3)

theorem movesWord_high : (0x0E#8 ++ size ++ mode ++ reg : Word).extractLsb' 8 8 = 0x0E#8 := by
  apply BitVec.eq_of_toNat_eq
  simp only [toNat_extract_eq, toNat_append_eq, BitVec.toNat_ofNat]
  omega

theorem movesWord_size : (0x0E#8 ++ size ++ mode ++ reg : Word).extractLsb' 6 2 = size := by
  apply BitVec.eq_of_toNat_eq
  simp only [toNat_extract_eq, toNat_append_eq, BitVec.toNat_ofNat]
  omega

theorem movesWord_mode : (0x0E#8 ++ size ++ mode ++ reg : Word).extractLsb' 3 3 = mode := by
  apply BitVec.eq_of_toNat_eq
  simp only [toNat_extract_eq, toNat_append_eq, BitVec.toNat_ofNat]
  omega

theorem movesWord_reg : (0x0E#8 ++ size ++ mode ++ reg : Word).extractLsb' 0 3 = reg := by
  apply BitVec.eq_of_toNat_eq
  simp only [toNat_extract_eq, toNat_append_eq, BitVec.toNat_ofNat]
  omega

theorem isMovesWord_encoded (h : size ≠ 3#2) : isMovesWord (0x0E#8 ++ size ++ mode ++ reg) = true := by
  simp [isMovesWord, movesWord_high, movesWord_size, h]

end

/-- A MOVES word is its fields put together (rule R63). -/
theorem movesWord_of_fields {w : Word} (h : isMovesWord w = true) :
    (0x0E#8 ++ w.extractLsb' 6 2 ++ w.extractLsb' 3 3 ++ w.extractLsb' 0 3 : Word) = w := by
  obtain ⟨hh, -⟩ : w.extractLsb' 8 8 = 0x0E#8 ∧ w.extractLsb' 6 2 ≠ 3#2 := by simpa [isMovesWord] using h
  have hw := w.isLt
  have hh := congrArg BitVec.toNat hh
  apply BitVec.eq_of_toNat_eq
  simp only [toNat_extract_eq, toNat_append_eq, BitVec.toNat_ofNat] at hh ⊢
  omega

/-! The fields of the extension word of MOVES. -/

theorem getLsbD_eq_decide {n : Nat} (x : BitVec n) (i : Nat) : x.getLsbD i = decide (x.toNat / 2 ^ i % 2 = 1) := by
  rw [BitVec.getLsbD, Nat.testBit_eq_decide_div_mod_eq]

/-- The fields `A` and `RRR` are the top four bits. -/
theorem extensionReg_bits (x : Word) : (extensionReg x).bits = x.extractLsb' 12 4 := by
  have hx := x.isLt
  apply BitVec.eq_of_toNat_eq
  unfold extensionReg
  split <;> next h =>
    rw [getLsbD_eq_decide, decide_eq_true_eq] at h
    simp only [GeneralReg.bits, toNat_extract_eq, toNat_append_eq, BitVec.toNat_ofNat]
    omega

/-- The field `d` is bit 11. -/
theorem extensionDir_bit (x : Word) : (extensionDir x).bit = x.extractLsb' 11 1 := by
  apply BitVec.eq_of_toNat_eq
  unfold extensionDir
  split <;> next h =>
    rw [getLsbD_eq_decide, decide_eq_true_eq] at h
    simp only [Direction.bit, toNat_extract_eq, BitVec.toNat_ofNat]
    omega

theorem GeneralReg.bits_injective : Function.Injective GeneralReg.bits := by
  intro r q h
  have h := congrArg BitVec.toNat h
  cases r <;> cases q <;> simp only [GeneralReg.bits, toNat_append_eq, BitVec.toNat_ofNat] at h
  · exact congrArg _ (BitVec.eq_of_toNat_eq (by omega))
  · omega
  · omega
  · exact congrArg _ (BitVec.eq_of_toNat_eq (by omega))

theorem Direction.bit_injective : Function.Injective Direction.bit := by
  intro d e h
  cases d <;> cases e
  · rfl
  · cases h
  · cases h
  · rfl

/-- An extension word whose low eleven bits are zero is its fields put together (rule R63). -/
theorem extensionWord_of_fields {x : Word} (h : x.extractLsb' 0 11 = 0#11) :
    ((extensionReg x).bits ++ (extensionDir x).bit ++ 0#11 : Word) = x := by
  have hx := x.isLt
  have h := congrArg BitVec.toNat h
  rw [extensionReg_bits, extensionDir_bit]
  apply BitVec.eq_of_toNat_eq
  simp only [toNat_extract_eq, toNat_append_eq, BitVec.toNat_ofNat] at h ⊢
  omega

section

variable (r : GeneralReg) (dir : Direction)

theorem extensionWord_low : (r.bits ++ dir.bit ++ 0#11 : Word).extractLsb' 0 11 = 0#11 := by
  apply BitVec.eq_of_toNat_eq
  simp only [toNat_extract_eq, toNat_append_eq, BitVec.toNat_ofNat]
  omega

theorem extensionReg_encoded : extensionReg (r.bits ++ dir.bit ++ 0#11) = r := by
  apply GeneralReg.bits_injective
  rw [extensionReg_bits]
  apply BitVec.eq_of_toNat_eq
  simp only [toNat_extract_eq, toNat_append_eq, BitVec.toNat_ofNat]
  omega

theorem extensionDir_encoded : extensionDir (r.bits ++ dir.bit ++ 0#11) = dir := by
  apply Direction.bit_injective
  rw [extensionDir_bit]
  apply BitVec.eq_of_toNat_eq
  simp only [toNat_extract_eq, toNat_append_eq, BitVec.toNat_ofNat]
  omega

end

/-! ### The obligations about the decoder -/

theorem encodeBytes_rte : encodeBytes .rte = wordBytes rteWord := by
  simp [encodeBytes, encode]

theorem encodeBytes_moves (size : BitVec 2) (mode reg : BitVec 3) (r : GeneralReg) (dir : Direction) :
    encodeBytes (.moves size mode reg r dir) =
      wordBytes (0x0E#8 ++ size ++ mode ++ reg) ++ wordBytes (r.bits ++ dir.bit ++ 0#11) := by
  simp [encodeBytes, encode]

/-- Settles O39: RTE is its one word; the fields of MOVES are read back from its two words. -/
theorem decodeOfEncode : Obligations.DecodeOfEncode := by
  intro i rest hw
  cases i with
  | rte => rw [encodeBytes_rte, decode_rteWord]
  | moves size mode reg r dir =>
    have hsize : size ≠ 3#2 := by simpa [Instr.wellFormed] using hw
    have hm := (decodeMoves_ok (w := 0x0E#8 ++ size ++ mode ++ reg)).2 ⟨extensionWord_low r dir, rfl⟩
    rw [movesWord_size, movesWord_mode, movesWord_reg, extensionReg_encoded, extensionDir_encoded] at hm
    rw [encodeBytes_moves, List.append_assoc, decode_movesWord (isMovesWord_encoded _ _ _ hsize), hm]
    rfl

/-- Settles O40: what decodes is RTE's word or the two words of MOVES, each its fields put together. -/
theorem encodeOfDecode : Obligations.EncodeOfDecode := by
  intro bs i rest h
  obtain ⟨rfl, rfl⟩ | ⟨w, x, rfl, hm, hd⟩ := decode_ok h
  · exact ⟨rfl, by rw [encodeBytes_rte]⟩
  · obtain ⟨hx, rfl⟩ := decodeMoves_ok.1 hd
    refine ⟨?_, by rw [encodeBytes_moves, movesWord_of_fields hm, extensionWord_of_fields hx, List.append_assoc]⟩
    simp only [isMovesWord, Bool.and_eq_true] at hm
    exact hm.2

/-- An operation word of MOVES by its two bytes. -/
theorem isMovesWord_append (b0 b1 : Byte) :
    isMovesWord (b0 ++ b1) = (b0 == 0x0E#8 && b1.extractLsb' 6 2 != 3#2) := by
  have h0 := b0.isLt
  have h1 := b1.isLt
  have hhigh : (b0 ++ b1 : Word).extractLsb' 8 8 = b0 := by
    apply BitVec.eq_of_toNat_eq
    simp only [toNat_extract_eq, toNat_append_eq]
    omega
  have hsize : (b0 ++ b1 : Word).extractLsb' 6 2 = b1.extractLsb' 6 2 := by
    apply BitVec.eq_of_toNat_eq
    simp only [toNat_extract_eq, toNat_append_eq]
    omega
  rw [isMovesWord, hhigh, hsize]

theorem decode_cons_cons (b0 b1 : Byte) (rest : List Byte) :
    decode (b0 :: b1 :: rest) = decode (wordBytes (b0 ++ b1) ++ rest) := by
  rw [wordBytes_append]
  rfl

/-- Settles O41: such a word is neither RTE's nor one of MOVES. -/
theorem decoderRefusesEveryOtherWord : Obligations.DecoderRefusesEveryOtherWord := by
  intro b0 b1 rest h
  rw [decode_cons_cons]
  obtain hrow | ⟨rfl, hsize⟩ := h
  · simp only [opcodeTable, List.forall_mem_cons, List.not_mem_nil, false_imp_iff, implies_true, and_true] at hrow
    obtain ⟨hmoves, hrte⟩ := hrow
    refine decode_other (fun he => hrte ?_) ?_
    · rw [he]
      decide
    · rw [isMovesWord_append]
      by_cases h0 : b0 = 0x0E#8
      · subst h0
        exact (hmoves (by revert b1; decide)).elim
      · simp [h0]
  · refine decode_other (fun he => ?_) (by simp [isMovesWord_append, hsize])
    have := congrArg (BitVec.extractLsb' 8 8) he
    revert b1; decide

/-- Settles O51: each case of an operation word decodes or has the one verdict. -/
theorem decoderVerdictOnEveryWord : Obligations.DecoderVerdictOnEveryWord := by
  intro b0 b1 rest
  rw [decode_cons_cons]
  obtain ⟨-, hd⟩ | ⟨x, after, i, -, -, -, hd⟩ | hd := decode_word_cases (b0 ++ b1) rest
  · exact .inl ⟨_, _, hd⟩
  · exact .inl ⟨_, _, hd⟩
  · exact .inr hd

/-- Settles O42: six fixed words, each decoded by evaluation. -/
theorem specWordsDecode : Obligations.SpecWordsDecode := by
  refine ⟨?_, ?_, ?_, ?_, ?_, ?_⟩ <;> decide

end Sys2Proof
end

section
namespace Sys2Proof.Machine

/-! ### Reset signalling and the hold (70_reset_and_hazards.md section 1; rules R81, R82, R92, R110 to R118)

Which clock recognises a change of RSTI, and the step in each phase of the reset period. -/

section

variable {s t : State}

theorem ticked_assertionSeen :
    s.ticked.assertionSeen = true ↔ s.rsti = true ∧ Config.tSync + s.rstiLate ≤ s.rstiAge := by
  simp [State.assertionSeen, State.rstiSettled]

theorem ticked_negationSeen :
    s.ticked.negationSeen = true ↔ s.rsti = false ∧ Config.tSync + s.rstiLate ≤ s.rstiAge := by
  simp [State.negationSeen, State.rstiSettled]

theorem assertionSeen_of_negated (h : s.rsti = false) : s.assertionSeen = false := by
  simp [State.assertionSeen, h]

/-- With nothing scheduled and RSTI negated the processor is undisturbed. -/
theorem undisturbed_of_idle (hs : s.schedule = []) (hr : s.rsti = false) : s.undisturbed :=
  ⟨by simp only [State.processorNext, hs], assertionSeen_of_negated (s := s.ticked) hr⟩

/-- A recognised assertion of RSTI comes before everything (rules R81, R92). -/
theorem step_of_recognised (hn : s.processorNext) (ha : s.ticked.assertionSeen = true) (hp : s.phase ≠ .asserted) :
    step s = .next s.ticked.abandon := by
  simp [step_of_processorNext hn, ha, hp]

/-- In `Asserted` only the negation of RSTI has an effect (rule R118, second row). -/
theorem step_of_asserted (hn : s.processorNext) (hp : s.phase = .asserted) :
    step s = .next (if s.ticked.negationSeen then s.ticked.beginHold else s.ticked) := by
  rw [step_of_processorNext hn, ← phaseRow_asserted (s := s.ticked) hp]
  simp [hp]

theorem step_of_hold_succ {n : Nat} (h : s.undisturbed) (hp : s.phase = .hold (n + 1)) :
    step s = .next { s.ticked with phase := .hold n } := by
  rw [step_of_undisturbed h, phaseRow_hold_succ (s := s.ticked) hp]

theorem step_of_hold_zero (h : s.undisturbed) (hp : s.phase = .hold 0) : step s = .next s.ticked.endHold := by
  rw [step_of_undisturbed h, phaseRow_hold_zero (s := s.ticked) hp]

/-- What the processor's turn can do that answers a next state: it recognises RSTI, or it does the row of its phase. -/
theorem step_next_of_processorNext (hn : s.processorNext) (h : step s = .next t) :
    (s.ticked.assertionSeen = true ∧ s.phase ≠ .asserted ∧ t = s.ticked.abandon) ∨
    ((s.ticked.assertionSeen = true → s.phase = .asserted) ∧ RowEffect s.ticked t) := by
  rw [step_of_processorNext hn] at h
  split at h
  · next hc =>
    simp only [Bool.and_eq_true, bne_iff_ne] at hc
    cases h
    exact .inl ⟨hc.1, hc.2, rfl⟩
  · next hc => exact .inr ⟨fun ha => by simpa [ha] using hc, phaseRow_next h⟩

/-- When it is not the processor's turn the environment moves. -/
theorem env_of_not_processorNext (hn : ¬ s.processorNext) : ∃ m rest, s.schedule = .env m :: rest := by
  cases hs : s.schedule with
  | nil => simp only [State.processorNext, hs, not_true_eq_false] at hn
  | cons turn rest =>
    cases turn with
    | clock => simp only [State.processorNext, hs, not_true_eq_false] at hn
    | env m => exact ⟨m, rest, rfl⟩

/-- No row of rule R118 enters `Asserted`. -/
theorem RowEffect.phase_asserted (h : RowEffect s t) (ht : t.phase = .asserted) : s.phase = .asserted := by
  cases h with
  | stay => exact ht
  | awaitAcknowledge e a hp he ha => exact ht
  | retried e a hp he hr => exact ht
  | unanswered e a hp he hu => exact ht
  | readVector1 v0 v hp ha =>
    rw [State.loadVector_phase] at ht
    split at ht <;> cases ht
  | prefetch k w hp ha =>
    unfold State.storePrefetch at ht
    split at ht <;> cases ht
  | _ => cases ht

end

/-- Settles O1: the recognised assertion abandons everything, whatever the phase. -/
theorem recognisedRstiEntersAsserted : Obligations.RecognisedRstiEntersAsserted :=
  fun _ hn ha hp => ⟨_, step_of_recognised hn ha hp, rfl, rfl⟩

/-- Settles O2: `State.abandon` is the whole step, and memory differs by the settled write-backs only. -/
theorem recognisedRstiAbandonsAndSavesNothing : Obligations.RecognisedRstiAbandonsAndSavesNothing :=
  fun s hn ha hp =>
    ⟨_, step_of_recognised hn ha hp, rfl, settleWriteBacks_readByte _ 0 s.writeBacks s.mem⟩

/-- Settles O3: the invariant holds after the step, and in the reset period it has MI held by reset. -/
theorem miAssertedWhileInReset : Obligations.MiAssertedWhileInReset := by
  intro s t hi h hr
  obtain ⟨hmi, -⟩ := quietInReset_of_inReset (stepKeepsResetInvariant s t hi h).2 hr
  have hlevel := level_mi_of_heldByReset hmi
  exact ⟨by simp [State.miAsserted, hlevel], hlevel⟩

/-- Settles O4: the invariant holds after the step, and in the reset period it has the other outputs quiet. -/
theorem outputsQuietWhileInReset : Obligations.OutputsQuietWhileInReset := by
  intro s t o hi h hr ho
  obtain ⟨-, hbus, -⟩ := quietInReset_of_inReset (stepKeepsResetInvariant s t hi h).2 hr
  have hlevel := level_of_quiet ho hbus
  refine ⟨hlevel, ?_⟩
  rw [hlevel]
  split
  · exact SignalLevel.noConfusion
  · exact SignalLevel.noConfusion

/-- Settles O5: the row `Asserted` with and without the negation seen. -/
theorem negatedRstiStartsHold : Obligations.NegatedRstiStartsHold := by
  intro s hn hp
  rw [step_of_asserted hn hp]
  exact ⟨fun h => by rw [if_pos h]; rfl, fun h => by rw [if_neg (ne_true_of_eq_false h)]⟩

/-- Settles O6: the row `Hold(n + 1)`. -/
theorem holdCountsDown : Obligations.HoldCountsDown :=
  fun _ _ hu hp => step_of_hold_succ hu hp

/-- Settles O7, by induction on the clocks that have passed. -/
theorem holdLastsItsClocks : Obligations.HoldLastsItsClocks := by
  intro s n k hs hr hp hk
  induction k generalizing s n with
  | zero =>
    cases s
    cases hp
    rfl
  | succ k ih =>
    obtain ⟨m, rfl⟩ : ∃ m, n = m + 1 := ⟨n - 1, by omega⟩
    have hrest := ih { s.ticked with phase := .hold m } m (by simp [hs]) hr rfl (by omega)
    refine (runSteps_of_next k (step_of_hold_succ (undisturbed_of_idle hs hr) hp)).trans (hrest.trans ?_)
    cases s
    cases hs
    simp only [State.ticked, State.tick, List.tail_nil, Nat.add_sub_add_right, Nat.add_assoc, Nat.add_comm 1 k]

/-- Settles O8: the count is abandoned, and from `Asserted` the next hold starts at 128. -/
theorem holdAbandonedByRsti : Obligations.HoldAbandonedByRsti := by
  intro s n hn hp ha
  refine ⟨_, step_of_recognised hn ha (by simp [hp]), rfl, fun u hu hup hneg => ?_⟩
  exact ⟨_, (negatedRstiStartsHold u hu hup).1 hneg, rfl⟩

/-- Settles O9: T_RSTI_MIN is above T_SYNC. -/
theorem dutifulRstiPulseIsSeen : Obligations.DutifulRstiPulseIsSeen := by
  intro s late levels ⟨hr, hmin⟩ hl
  have : Config.tSync < Config.tRstiMin := by simp [Config.tSync, Config.tRstiMin]
  simp only [State.assertionSeen, hr, State.rstiSettled, hl, Bool.true_and, decide_eq_true_eq]
  omega

/-- Settles O49: whether a turn recognises a change is whether it comes T_SYNC and the delay after the change; the rows
of rule R118 do not enter `Asserted`. -/
theorem rstiIsRecognisedAfterSynchronisation : Obligations.RstiIsRecognisedAfterSynchronisation := by
  refine ⟨?_, ?_, ?_, ?_⟩ <;> intro s t hn h hr
  · intro hp hage ht
    obtain ⟨ha, -⟩ | ⟨-, hrow⟩ := step_next_of_processorNext hn h
    · have := (ticked_assertionSeen.1 ha).2
      omega
    · exact hp (hrow.phase_asserted ht)
  · intro hage
    by_cases hp : s.phase = .asserted
    · have hneg : ¬ s.ticked.negationSeen = true := by simp [ticked_negationSeen, hr]
      rw [step_of_asserted hn hp, if_neg hneg] at h
      cases h
      exact hp
    · rw [step_of_recognised hn (ticked_assertionSeen.2 ⟨hr, hage⟩) hp] at h
      cases h
      rfl
  · intro hp hage
    have hneg : ¬ s.ticked.negationSeen = true := fun hc => by
      have := (ticked_negationSeen.1 hc).2
      omega
    rw [step_of_asserted hn hp, if_neg hneg] at h
    cases h
    exact hp
  · intro hp hage
    rw [step_of_asserted hn hp, if_pos (ticked_negationSeen.2 ⟨hr, hage⟩)] at h
    cases h
    rfl

/-! ### The end of the hold (60_exceptions.md section 2; rules R83, R84, R85, R89) -/

@[simp] theorem enterReset_mode (r : StatusReg) : r.enterReset.mode = .supervisorInterrupt := rfl

theorem activeSp_of_interruptMode {s : State} (h : s.sr.mode = .supervisorInterrupt) : s.activeSp = s.isp := by
  simp only [State.activeSp, h]

/-- A7 is the active stack pointer (rule R18). -/
theorem readReg_a7 (s : State) : s.readReg (.addr 7#3) = s.activeSp := by
  simp [State.readReg]

/-- Settles O10: `State.endHold` is the whole step, and its SR is that of `StatusReg.enterReset`. -/
theorem holdEndWritesStatusRegister : Obligations.HoldEndWritesStatusRegister :=
  fun _ hu hp => ⟨_, step_of_hold_zero hu hp, rfl, rfl, rfl⟩

/-- Settles O11: what `State.endHold` does to VBR, CACR and the caches. -/
theorem holdEndClearsVbrAndCacheEnables : Obligations.HoldEndClearsVbrAndCacheEnables :=
  fun _ hu hp => ⟨_, step_of_hold_zero hu hp, rfl, rfl, rfl, rfl⟩

/-- Settles O12: what `State.endHold` does to TC and the four TTRs. -/
theorem holdEndDisablesTranslationKeepsPageSize : Obligations.HoldEndDisablesTranslationKeepsPageSize :=
  fun _ hu hp => ⟨_, step_of_hold_zero hu hp, rfl, rfl, rfl, rfl, rfl, rfl, rfl⟩

/-- Settles O13: `State.endHold` is the whole step, so every other field is the ticked state's. -/
theorem holdEndChangesNothingElse : Obligations.HoldEndChangesNothingElse :=
  fun _ hu hp => ⟨_, step_of_hold_zero hu hp, rfl, fun _ => rfl⟩

/-- Settles O14: the mode after the hold is the interrupt mode, so that A7 is ISP. -/
theorem holdEndSelectsInterruptStack : Obligations.HoldEndSelectsInterruptStack := by
  intro s hu hp
  have hsp : s.ticked.endHold.activeSp = s.ticked.endHold.isp := activeSp_of_interruptMode (enterReset_mode _)
  exact ⟨_, step_of_hold_zero hu hp, hsp, by rw [readReg_a7, hsp]; rfl⟩

/-- Settles O15: after R83 only the five condition codes are open. -/
theorem statusWordAfterReset : Obligations.StatusWordAfterReset := by
  rintro ⟨t1, t0, su, m, i, ⟨x, n, z, v, c⟩⟩
  simp only [StatusReg.enterReset, StatusReg.word, CondCodes.bits]
  revert x n z v c
  decide

/-- Settles O30: `State.reset` is in `Asserted` with memory empty, and every clause is about a value it writes out. -/
theorem resetStateMeetsInvariant : Obligations.ResetStateMeetsInvariant :=
  ⟨⟨rfl, rfl, rfl, rfl, rfl, rfl, rfl, rfl⟩, ⟨rfl, rfl, rfl, rfl, rfl, rfl, rfl, rfl, rfl⟩, rfl, rfl⟩

end Sys2Proof.Machine
end

section
namespace Sys2Proof.Machine

/-! ### The bus and the seven bus events (60_exceptions.md section 2; rules R45, R50, R57, R86 to R91, R115)

The step in the phases of the bus events: the row of rule R118 is the event, and an event that reads is one long-word
read whose every outcome has its lemma above. -/

section

variable {s : State}

theorem step_of_awaitBus (h : s.undisturbed) (hp : s.phase = .awaitBus) :
    step s = .next (if s.bg then s.ticked.takeOwnership else s.ticked) := by
  rw [step_of_undisturbed h, phaseRow_awaitBus (s := s.ticked) hp]
  rfl

theorem step_of_processing {e : BusEvent} (h : s.undisturbed) (hp : s.phase = .processing e) :
    step s = s.ticked.processEvent e := by
  rw [step_of_undisturbed h, phaseRow_processing (s := s.ticked) hp]

theorem step_of_iack (h : s.undisturbed) (hp : s.phase = .processing .iack) :
    step s = .next (if s.bg then s.ticked.acknowledge else s.ticked) :=
  step_of_processing h hp

theorem step_of_vector0 {v : Long} (h : s.undisturbed) (hp : s.phase = .processing .vector0)
    (ha : s.answers s.vectorBase v) :
    step s = .next { s.ticked.endTransfer.record (.read .exceptionVectorFetch s.vectorBase v) with
      phase := .processing (.vector1 v) } :=
  (step_of_processing h hp).trans (processEvent_vector0 (s := s.ticked) ha)

theorem step_of_vector1 {v0 v : Long} (h : s.undisturbed) (hp : s.phase = .processing (.vector1 v0))
    (ha : s.answers (s.vectorBase + 4) v) :
    step s = .next ((s.ticked.endTransfer.record
      (.read .exceptionVectorFetch (s.vectorBase + 4) v)).loadVector v0 v) :=
  (step_of_processing h hp).trans (processEvent_vector1 (s := s.ticked) ha)

theorem step_of_prefetch {k : Fin 4} {w : Long} (h : s.undisturbed) (hp : s.phase = .processing (.prefetch k))
    (ha : s.answers (s.prefetchAddr k) w) :
    step s = .next ((s.ticked.endTransfer.record
      (.read .disabledCache (s.prefetchAddr k) w)).storePrefetch k w) :=
  (step_of_processing h hp).trans (processEvent_prefetch (s := s.ticked) ha)

/-! Running an instruction: what it comes to by what the fetch delivers. -/

/-- Every instruction is refused, whatever the state (rules R70, R71). -/
theorem exec_refused (i : Instr) : ∃ r, ∀ u : State, exec i u = .refused r := by
  cases i with
  | moves size mode reg r dir => exact ⟨_, execMoves_refused size mode reg r dir⟩
  | rte => exact ⟨_, execRte_refused⟩

theorem runInstruction_of_decoded {bs rest : List Byte} {i : Instr} (hf : s.fetch = .bytes bs)
    (hd : decode bs = .ok (i, rest)) : s.runInstruction = exec i s := by
  simp only [State.runInstruction, hf, hd]

theorem runInstruction_of_notInSource {bs : List Byte} (hf : s.fetch = .bytes bs)
    (hd : decode bs = .error .notInSource) : s.runInstruction = .refused .instructionSetNotInSource := by
  simp only [State.runInstruction, hf, hd]

theorem runInstruction_of_prefetched (hf : s.fetch = .prefetched) :
    s.runInstruction = .refused .instructionSetNotInSource := by
  simp only [State.runInstruction, hf]

/-- What running an instruction comes to depends on the fetch and, for a fault, on PC: no instruction has an effect. -/
theorem runInstruction_agree {u : State} (hf : u.fetch = s.fetch) (hpc : u.pc = s.pc) :
    (s.runInstruction = .next s ∧ u.runInstruction = .next u) ∨
    (∃ f, s.runInstruction = .fault f ∧ u.runInstruction = .fault f) ∨
    (∃ r, s.runInstruction = .refused r ∧ u.runInstruction = .refused r) := by
  simp only [State.runInstruction, hf, hpc]
  cases s.fetch with
  | waiting => exact .inl ⟨rfl, rfl⟩
  | failed => exact .inr (.inl ⟨_, rfl, rfl⟩)
  | translated => exact .inr (.inr ⟨_, rfl, rfl⟩)
  | prefetched => exact .inr (.inr ⟨_, rfl, rfl⟩)
  | bytes bs =>
    dsimp only
    cases decode bs with
    | ok r =>
      obtain ⟨i, rest⟩ := r
      obtain ⟨r, hr⟩ := exec_refused i
      exact .inr (.inr ⟨r, hr s, hr u⟩)
    | error e =>
      cases e with
      | truncated => exact .inr (.inl ⟨_, rfl, rfl⟩)
      | notInSource => exact .inr (.inr ⟨_, rfl, rfl⟩)

theorem fetch_of_translationOn (h : s.translationOn = true) : s.fetch = .translated := by
  simp only [State.fetch, h, if_true]

theorem runInstruction_of_translationOn (h : s.translationOn = true) :
    s.runInstruction = .refused .translationEnabled := by
  simp only [State.runInstruction, fetch_of_translationOn h]

/-- In `Running` with RSTI negated the step runs the instruction at PC. -/
theorem step_of_running (hn : s.processorNext) (hr : s.rsti = false) (hp : s.phase = .running) :
    step s = s.ticked.runInstruction := by
  rw [step_of_undisturbed ⟨hn, assertionSeen_of_negated (s := s.ticked) hr⟩, phaseRow_running (s := s.ticked) hp]
  simp [State.execute, hr]

/-- A reading event is a read whose value goes on without a change of the bus (rules R45, R87, R88). -/
theorem processEvent_read_bus {e : BusEvent} {a : Long} (he : s.eventAddr e = some a) :
    ∃ go : Long → State → State, s.processEvent e = s.readThen e.cause a go ∧ ∀ v u, (go v u).bus = u.bus := by
  cases e with
  | iack => cases he
  | vector0 => cases he; exact ⟨fun v t => { t with phase := .processing (.vector1 v) }, rfl, fun _ _ => rfl⟩
  | vector1 v0 => cases he; exact ⟨fun v t => t.loadVector v0 v, rfl, fun _ _ => rfl⟩
  | prefetch k => cases he; exact ⟨fun w t => t.storePrefetch k w, rfl, fun w _ => storePrefetch_bus k w⟩

end

/-- Settles O16: the row `AwaitBus` without and with the grant. -/
theorem awaitBusWaitsForGrant : Obligations.AwaitBusWaitsForGrant := by
  intro s hu hp
  rw [step_of_awaitBus hu hp]
  exact ⟨fun hb => by rw [if_neg (ne_true_of_eq_false hb)], fun hb => by rw [if_pos hb]; rfl⟩

/-- Settles O17: the first bus event with and without the grant. -/
theorem acknowledgeCycleGivesVectorZero : Obligations.AcknowledgeCycleGivesVectorZero := by
  intro s hu hp
  rw [step_of_iack hu hp]
  exact ⟨fun hb => by rw [if_pos hb]; rfl, fun hb => by rw [if_neg (ne_true_of_eq_false hb)]⟩

/-- Settles O53: every reading event waits for the answer to the acknowledge cycle. -/
theorem acknowledgeCycleWaitsForAnswer : Obligations.AcknowledgeCycleWaitsForAnswer := by
  intro s e a hu hp he ha
  rw [step_of_processing hu hp, processEvent_of_acknowledging (s := s.ticked) he ha]
  exact ⟨fun hk => by rw [awaitAcknowledge_of_unanswered (s := s.ticked) hk],
    fun hk => by rw [awaitAcknowledge_of_answered (s := s.ticked) hk]⟩

/-- Settles O18: an answered read of vector number 0. -/
theorem firstVectorReadIsKept : Obligations.FirstVectorReadIsKept :=
  fun _ _ hu hp ha => step_of_vector0 hu hp ha

/-- Settles O19: an answered read of vector number 1, `State.loadVector` with the two long words. -/
theorem secondVectorReadLoadsIspAndPc : Obligations.SecondVectorReadLoadsIspAndPc :=
  fun _ _ _ hu hp ha => step_of_vector1 hu hp ha

/-- Settles O20: a prefetch read before the fourth is stored and the next one is to come. -/
theorem prefetchReadJoinsPf : Obligations.PrefetchReadJoinsPf := by
  intro s k hk w hu hp ha
  rw [step_of_prefetch hu hp ha, storePrefetch_of_lt hk]
  rfl

/-- Settles O21: the free values are those of this clock. -/
theorem fourthPrefetchConcludes : Obligations.FourthPrefetchConcludes := by
  intro s w hu hp ha
  refine ⟨Config.havoc s.ticked.clock, ?_⟩
  rw [step_of_prefetch hu hp ha, storePrefetch_last]
  rfl

/-- Settles O22: every reading event records its failed read. -/
theorem failedReadIsResetFetchFault : Obligations.FailedReadIsResetFetchFault := by
  intro s e a hu hp he hf
  rw [step_of_processing hu hp, processEvent_of_failsAt (s := s.ticked) he hf]
  rfl

/-- Settles O23: a transfer not ended shows step 1 of rule R45, its first clock or a later one. -/
theorem unansweredReadWaits : Obligations.UnansweredReadWaits := by
  intro s e a hu hp he
  rw [step_of_processing hu hp]
  refine ⟨processEvent_of_busDenied (s := s.ticked) he, processEvent_of_retried (s := s.ticked) he, fun hun => ?_⟩
  obtain ⟨first, hfirst, hbus⟩ : ∃ first, (first = false ↔ ∃ c x b, s.bus = .readTransfer c x b) ∧
      s.bus.holdTransfer e.cause a = .readTransfer e.cause a first := by
    obtain ⟨hon, h⟩ | ⟨hoff, h⟩ := holdTransfer_cases s.bus e.cause a
    · exact ⟨false, iff_of_true rfl hon, h⟩
    · exact ⟨true, iff_of_false Bool.noConfusion hoff, h⟩
  refine ⟨{ s.ticked with bus := .readTransfer e.cause a first }, first, ?_, rfl, hfirst, rfl, rfl, rfl, fun _ => rfl⟩
  rw [processEvent_of_unanswered (s := s.ticked) he hun, ← hbus]
  rfl

/-- Settles O24: the reading events and the fetch look at the enable bits first. -/
theorem translatedAccessIsRefused : Obligations.TranslatedAccessIsRefused := by
  intro s hu ht hcase
  obtain ⟨e, a, hp, he⟩ | ⟨hp, hr⟩ := hcase
  · rw [step_of_processing hu hp, processEvent_of_translationOn (s := s.ticked) he ht]
  · rw [step_of_running hu.1 hr hp, runInstruction_of_translationOn (s := s.ticked) ht]

/-- Settles O50: the invariant holds after the step, and in the wait for the bus it has the signals high-impedance. -/
theorem awaitBusSignalsAreHighImpedance : Obligations.AwaitBusSignalsAreHighImpedance := by
  intro s t o hi h hp
  obtain ⟨-, -, hbus, -⟩ := (phaseInv_awaitBus hp).1 (stepKeepsResetInvariant s t hi h).2
  have hlevel : ∀ q : Output, q ≠ .mi → t.level q = waitingLevel q := fun q hq => by
    rw [level_of_ne hq, hbus]
    rfl
  exact ⟨fun hm hb => by rw [hlevel o hm, waitingLevel, if_neg hb], hlevel .br Output.noConfusion⟩

/-- Settles O54: a reading event with its transfer on the bus ends it or holds it, in a later clock than its first. -/
theorem transferStartLastsOneClock : Obligations.TransferStartLastsOneClock := by
  intro s t e c x b hu hp he hbus h
  obtain ⟨a, ha⟩ := Option.ne_none_iff_exists'.1 he
  obtain ⟨go, hgo, hbusgo⟩ := processEvent_read_bus (s := s.ticked) (e := e) ha
  rw [step_of_processing hu hp, hgo] at h
  obtain ⟨⟨-, hno, -⟩, -⟩ | ⟨⟨-, hack⟩, -⟩ | ⟨-, rfl⟩ | ⟨-, rfl⟩ | ⟨-, rfl⟩ | ⟨v, -, rfl⟩ := readThen_next h
  · rw [mayTransfer_of_readTransfer (s := s.ticked) hbus] at hno
    cases hno
  · cases hack.symm.trans hbus
  · exact .inl rfl
  · refine .inr ⟨a, ha, ?_⟩
    have hheld : (s.ticked.holdTransfer e.cause a).bus = .readTransfer e.cause a false := by
      simp only [State.holdTransfer_bus, State.ticked_bus, hbus, BusDrive.holdTransfer]
    refine ⟨hheld, ?_⟩
    rw [level_of_ne Output.noConfusion, hheld]
    rfl
  · exact .inl rfl
  · exact .inl (hbusgo v _)

end Sys2Proof.Machine
end

section
namespace Sys2Proof.Machine

/-! ### What every step keeps (rules R15, R28, R47, R51, R56, R116, R126)

The history, memory, the page size and the mode pins over all steps of both agents. -/

/-- An event that bypasses the caches: the acknowledge cycle, or a read under one of the five cases of rule R44. -/
def Event.bypassing (ev : Event) : Prop :=
  ev = .iackCycle ∨
  ∃ cause a, cause.bypassesCaches = true ∧ ((∃ v, ev = .read cause a v) ∨ ev = .readFailed cause a)

/-- A clock appends `ev` to the history: in `Processing`, with the bus granted or the transfer on it already. -/
def RecordsEvent (s t : State) (ev : Event) : Prop :=
  (∃ e, s.phase = .processing e) ∧ (s.bg = true ∨ ∃ c x b, s.bus = .readTransfer c x b) ∧
    t.history = s.history ++ [ev] ∧ ev.bypassing

section

variable {s t : State}

/-- The cause of each event's read is a case of rule R44. -/
theorem BusEvent.cause_bypasses (e : BusEvent) : e.cause.bypassesCaches = true := by
  cases e <;> rfl

theorem bg_or_readTransfer_of_answers {a v : Long} (h : s.answers a v) :
    s.bg = true ∨ ∃ c x b, s.bus = .readTransfer c x b := by
  obtain ⟨-, hm, -⟩ := h
  exact bg_or_readTransfer_of_mayTransfer hm

theorem bg_or_readTransfer_of_failsAt {a : Long} (h : s.failsAt a) :
    s.bg = true ∨ ∃ c x b, s.bus = .readTransfer c x b := by
  obtain ⟨-, hm, -⟩ := h
  exact bg_or_readTransfer_of_mayTransfer hm

/-- A row of rule R118 leaves the history or appends one event to it. -/
theorem RowEffect.history_cases (h : RowEffect s t) : t.history = s.history ∨ ∃ ev, RecordsEvent s t ev := by
  cases h with
  | acknowledge hp hb => exact .inr ⟨_, ⟨_, hp⟩, .inl hb, rfl, .inl rfl⟩
  | readVector0 v hp ha =>
    exact .inr ⟨_, ⟨_, hp⟩, bg_or_readTransfer_of_answers ha, rfl, .inr ⟨_, _, rfl, .inl ⟨v, rfl⟩⟩⟩
  | readVector1 v0 v hp ha =>
    exact .inr ⟨_, ⟨_, hp⟩, bg_or_readTransfer_of_answers ha, rfl, .inr ⟨_, _, rfl, .inl ⟨v, rfl⟩⟩⟩
  | prefetch k w hp ha =>
    exact .inr ⟨_, ⟨_, hp⟩, bg_or_readTransfer_of_answers ha, storePrefetch_history k w,
      .inr ⟨_, _, rfl, .inl ⟨w, rfl⟩⟩⟩
  | readFails e a hp he hf =>
    exact .inr ⟨_, ⟨_, hp⟩, bg_or_readTransfer_of_failsAt hf, rfl, .inr ⟨_, _, e.cause_bypasses, .inr rfl⟩⟩
  | _ => exact .inl rfl

theorem applyEnv_history (s : State) (m : EnvMove) : (s.applyEnv m).history = s.history := by
  rw [applyEnv_frame]

theorem applyEnv_tc (s : State) (m : EnvMove) : (s.applyEnv m).tc = s.tc := by
  rw [applyEnv_frame]

theorem applyEnv_phase (s : State) (m : EnvMove) : (s.applyEnv m).phase = s.phase := by
  rw [applyEnv_frame]

/-- A step leaves the history, appends one event to it, or empties it. -/
theorem step_history_cases (h : step s = .next t) :
    t.history = s.history ∨ (∃ ev, RecordsEvent s t ev) ∨ (t.phase = .asserted ∧ t.history = []) := by
  obtain ⟨m, rest, -, rfl⟩ | ⟨-, -, -, rfl⟩ | ⟨-, hrow⟩ := step_next h
  · exact .inl (applyEnv_history _ m)
  · exact .inr (.inr ⟨rfl, rfl⟩)
  · obtain hh | hev := hrow.history_cases
    · exact .inl hh
    · exact .inr (.inl hev)

/-- No row of rule R118 writes the page size (rules R85, R124). -/
theorem RowEffect.page_size_eq (h : RowEffect s t) : t.tc.p = s.tc.p := by
  cases h with
  | prefetch k w hp ha => exact storePrefetch_tc_p k w
  | _ => rfl

/-- `Done` is entered by the fourth prefetch read (rule R89). -/
theorem RowEffect.phase_done (h : RowEffect s t) (hs : s.phase ≠ .done) (ht : t.phase = .done) :
    s.phase = .processing (.prefetch 3) ∧ ∃ w, s.answers (s.prefetchAddr 3) w := by
  cases h with
  | stay => exact absurd ht hs
  | awaitAcknowledge e a hp he ha => exact absurd ht hs
  | retried e a hp he hr => exact absurd ht hs
  | unanswered e a hp he hu => exact absurd ht hs
  | readVector1 v0 v hp ha =>
    rw [State.loadVector_phase] at ht
    split at ht <;> cases ht
  | prefetch k w hp ha =>
    unfold State.storePrefetch at ht
    split at ht
    · cases ht
    · next hk =>
      obtain rfl : k = 3 := by omega
      exact ⟨hp, w, ha⟩
  | _ => cases ht

end

/-- Settles O25: an appended event is a row's, and each row's event bypasses the caches. -/
theorem recordedReadsBypassCaches : Obligations.RecordedReadsBypassCaches := by
  intro s t e h he
  obtain hh | ⟨ev, -, -, hh, hev⟩ | ⟨-, hh⟩ := step_history_cases h <;> rw [hh] at he
  · simp at he
  · obtain rfl : ev = e := by simpa using he
    exact hev
  · simp at he

/-- Settles O26: the four bytes put together are the sum of their values at their places. -/
theorem longReadIsBigEndian : Obligations.LongReadIsBigEndian := by
  intro m a v
  unfold Memory.longAt
  constructor
  · intro h
    split at h
    · next b0 b1 b2 b3 h0 h1 h2 h3 =>
      cases h
      refine ⟨b0, b1, b2, b3, h0, h1, h2, h3, ?_⟩
      simp only [toNat_append_eq]
      omega
    · cases h
  · rintro ⟨b0, b1, b2, b3, h0, h1, h2, h3, hv⟩
    simp only [h0, h1, h2, h3, Option.some.injEq]
    apply BitVec.eq_of_toNat_eq
    simp only [toNat_append_eq, hv]
    omega

/-- Settles O27: the history by the cases of a step. -/
theorem busEventsOnlyInProcessing : Obligations.BusEventsOnlyInProcessing := by
  intro s t h
  obtain hh | ⟨ev, hp, hb, hh, -⟩ | hr := step_history_cases h
  · exact .inl hh
  · exact .inr (.inl ⟨hp, hb, ev, hh⟩)
  · exact .inr (.inr hr)

/-- Settles O28: only the write of another master, and the write-backs settled when RSTI is recognised, touch memory. -/
theorem stepMemoryFrame : Obligations.StepMemoryFrame := by
  refine ⟨fun s t a h => ?_, fun s x b rest hs => ?_⟩
  · obtain ⟨m, rest, hs, rfl⟩ | ⟨-, -, -, rfl⟩ | ⟨-, hrow⟩ := step_next h
    · obtain hm | ⟨x, b, rfl, hm⟩ := applyEnv_mem { s with schedule := rest } m
      · exact .inl (by rw [hm])
      · by_cases hx : a = x.toNat
        · subst hx
          exact .inr (.inl ⟨x, b, by rw [hs]; rfl, rfl, by rw [hm, Memory.readByte_writeByte_self]⟩)
        · exact .inl (by rw [hm, Memory.readByte_writeByte_of_ne _ _ hx])
    · obtain hm | hm := settleWriteBacks_readByte (Config.writeBackLands s.ticked.clock) 0 s.writeBacks s.mem a
      · exact .inl hm
      · exact .inr (.inr ⟨rfl, hm⟩)
    · exact .inl (by rw [hrow.mem_eq, State.ticked_mem])
  · exact ⟨_, step_of_env hs, Memory.readByte_writeByte_self _ _ _,
      fun a ha => Memory.readByte_writeByte_of_ne _ _ ha⟩

/-- Settles O31: the invariant's facts in `Done`, with PF's four long words named. -/
theorem doneStateIsTheResetState : Obligations.DoneStateIsTheResetState := by
  intro s t hi h hp
  obtain ⟨hr, ⟨-, hpipe, hsh, hwb⟩, -, heven, hl, hh⟩ := (phaseInv_done hp).1 (stepKeepsResetInvariant s t hi h).2
  obtain ⟨w0, w1, w2, w3, hpf⟩ := List.length_eq_four.1 hl
  refine ⟨hr, heven, hwb, hpipe, hsh, w0, w1, w2, w3, hpf, ?_⟩
  rw [hh, State.resetHistory, hpf]
  simp [vectorEvents, prefetchEvents, BitVec.add_assoc]

/-- Settles O33: a clock that recognises RSTI ends in `Asserted`, one from `Done` in `Running`, and of the rows of rule
R118 only the fourth prefetch read ends in `Done`. -/
theorem doneOnlyAfterFourthPrefetch : Obligations.DoneOnlyAfterFourthPrefetch := by
  intro s t h ht
  by_cases hn : s.processorNext
  · obtain ⟨-, -, rfl⟩ | ⟨hseen, hrow⟩ := step_next_of_processorNext hn h
    · cases ht
    have undisturbed (hp : s.phase ≠ .asserted) : s.undisturbed :=
      ⟨hn, eq_false_of_ne_true fun ha => hp (hseen ha)⟩
    by_cases hs : s.phase = .done
    · rw [step_of_undisturbed (undisturbed (by simp [hs])), phaseRow_done (s := s.ticked) hs] at h
      cases h
      cases ht
    · obtain ⟨hp, ha⟩ := hrow.phase_done hs ht
      have hp : s.phase = .processing (.prefetch 3) := hp
      exact .inr ⟨hp, undisturbed (by simp [hp]), ha⟩
  · obtain ⟨m, rest, -, rfl⟩ | ⟨hn', -⟩ | ⟨hn', -⟩ := step_next h
    · exact .inl ⟨(applyEnv_phase { s with schedule := rest } m).symm.trans ht, hn⟩
    · exact absurd hn' hn
    · exact absurd hn' hn

/-- Settles O34: `State.standFaulted` after the tick. -/
theorem faultedStateWaitsForRsti : Obligations.FaultedStateWaitsForRsti := by
  intro s f hu hp
  rw [step_of_undisturbed hu, phaseRow_faulted (s := s.ticked) hp]
  refine ⟨fun hw => if_pos ?_, fun hr hl => if_neg ?_⟩
  · obtain hr | hl := hw
    · simp [hr]
    · simp [hl]
  · simp [hr, hl]

/-- Settles O35: neither agent's turn writes TC.P. -/
theorem pageSizeSurvivesEveryStep : Obligations.PageSizeSurvivesEveryStep := by
  intro s t h
  obtain ⟨m, rest, -, rfl⟩ | ⟨-, -, -, rfl⟩ | ⟨-, hrow⟩ := step_next h
  · rw [applyEnv_tc]
  · rfl
  · exact hrow.page_size_eq

/-- Settles O37: each move by its definition; a move to the level RSTI has is none. -/
theorem environmentNeverWritesRegisters : Obligations.EnvironmentNeverWritesRegisters := by
  intro s m rest hs
  rw [step_of_env hs]
  cases m with
  | assertRsti late =>
    simp only [State.applyEnv, State.driveRsti]
  | negateRsti late levels =>
    simp only [State.applyEnv, State.negateRsti, State.driveRsti]
    split
    · next hr => simp [hr]
    · rfl
  | _ => rfl

end Sys2Proof.Machine
end

section
namespace Sys2Proof.Machine

/-! ### An answered boot (95_test_vectors.md V1)

Nothing scheduled, RSTI negated, the bus granted and everything answered: the inputs stay so, and each turn of
`Processing` is over with its event. One lemma per event, then the nine turns after the hold in a row. -/

/-- The inputs of an answered boot, its memory and its page size: what no row of rule R118 changes. -/
structure State.BootInputs (s : State) (m : Memory) (p : BitVec 1) : Prop where
  schedule : s.schedule = []
  rsti : s.rsti = false
  bg : s.bg = true
  iackAnswered : s.iackAnswered = true
  response : s.response = .normal
  mem : s.mem = m
  page : s.tc.p = p

/-- An answered boot before event `e`, between two transfers. -/
structure State.BootsAt (s : State) (m : Memory) (p : BitVec 1) (e : BusEvent) : Prop where
  inputs : s.BootInputs m p
  phase : s.phase = .processing e
  registers : s.registersReset
  bus : s.bus = .implicitOwnership
  before : s.beforeEvent e

section

variable {s t : State} {m : Memory} {p : BitVec 1} {e : BusEvent} {a v : Long}

/-- No row of rule R118 writes an input or the schedule. -/
theorem RowEffect.inputs_eq (h : RowEffect s t) :
    t.schedule = s.schedule ∧ t.rsti = s.rsti ∧ t.bg = s.bg ∧ t.iackAnswered = s.iackAnswered ∧
      t.response = s.response := by
  cases h <;> simp

/-- No row of rule R118 undoes what rules R83 to R85 wrote. -/
theorem RowEffect.registersReset (h : RowEffect s t) (hr : s.registersReset) : t.registersReset := by
  cases h with
  | endHold hp => exact endHold_registersReset
  | prefetch k w hp ha =>
    unfold State.storePrefetch
    split <;> exact hr
  | _ => exact hr

namespace State.BootInputs

theorem undisturbed (h : s.BootInputs m p) : s.undisturbed := undisturbed_of_idle h.schedule h.rsti

theorem rowEffect (h : s.BootInputs m p) (hs : step s = .next t) : RowEffect s.ticked t :=
  phaseRow_next ((step_of_undisturbed h.undisturbed).symm.trans hs)

theorem next (h : s.BootInputs m p) (hs : step s = .next t) : t.BootInputs m p := by
  have hrow := h.rowEffect hs
  obtain ⟨h1, h2, h3, h4, h5⟩ := hrow.inputs_eq
  exact ⟨by simp [h1, h.schedule], h2.trans h.rsti, h3.trans h.bg, h4.trans h.iackAnswered, h5.trans h.response,
    hrow.mem_eq.trans h.mem, hrow.page_size_eq.trans h.page⟩

end State.BootInputs

namespace State.BootsAt

theorem answers (h : s.BootsAt m p e) (ha : m.longAt a = some v) : s.answers a v := by
  obtain ⟨-, -, -, -, -, -, -, -, ht⟩ := h.registers
  exact ⟨ht, by simp [State.mayTransfer, h.bus, h.inputs.bg], h.inputs.response, by rw [h.inputs.mem, ha]⟩

theorem registers_next (h : s.BootsAt m p e) (hs : step s = .next t) : t.registersReset :=
  (h.inputs.rowEffect hs).registersReset h.registers

theorem step_iack (h : s.BootsAt m p .iack) : ∃ t, step s = .next t ∧ t.BootsAt m p .vector0 := by
  have hs := step_of_iack h.inputs.undisturbed h.phase
  rw [if_pos h.inputs.bg] at hs
  exact ⟨_, hs, h.inputs.next hs, rfl, h.registers_next hs, if_pos h.inputs.iackAnswered,
    acknowledge_beforeEvent h.before⟩

theorem step_vector0 {v0 : Long} (h : s.BootsAt m p .vector0) (h0 : m.longAt 0 = some v0) :
    ∃ t, step s = .next t ∧ t.BootsAt m p (.vector1 v0) := by
  have hvbr := vbr_of_registersReset h.registers
  obtain ⟨-, hvec, -⟩ := h.before
  have hs := step_of_vector0 h.inputs.undisturbed h.phase
    (h.answers ((congrArg m.longAt (vectorBase_eq_zero hvbr hvec)).trans h0))
  exact ⟨_, hs, h.inputs.next hs, rfl, h.registers_next hs, rfl, readVector0_beforeEvent hvbr h.before⟩

theorem step_vector1 {v0 v1 : Long} (h : s.BootsAt m p (.vector1 v0)) (h1 : m.longAt 4 = some v1)
    (heven : v1.getLsbD 0 = false) :
    ∃ t, step s = .next t ∧ t.BootsAt m p (.prefetch 0) ∧ t.isp = v0 ∧ t.pc = v1 ∧ t.pf = [] := by
  have hvbr := vbr_of_registersReset h.registers
  obtain ⟨-, hvec, hpf⟩ := h.before
  have haddr : s.vectorBase + 4 = 4 := by rw [vectorBase_eq_zero hvbr hvec]; rfl
  have hs := step_of_vector1 h.inputs.undisturbed h.phase (h.answers ((congrArg m.longAt haddr).trans h1))
  exact ⟨_, hs, ⟨h.inputs.next hs, if_neg (ne_true_of_eq_false heven), h.registers_next hs, rfl,
    readVector1_beforeEvent hvbr heven h.before⟩, by simp, by simp, by simp [hpf]⟩

theorem step_prefetch {k : Fin 4} {w : Long} (h : s.BootsAt m p (.prefetch k)) (hk : k.val + 1 < 4)
    (hw : m.longAt (s.prefetchAddr k) = some w) :
    ∃ t, step s = .next t ∧ t.BootsAt m p (.prefetch ⟨k.val + 1, hk⟩) ∧ t.isp = s.isp ∧ t.pc = s.pc ∧
      t.pf = s.pf ++ [w] := by
  have hs := step_of_prefetch h.inputs.undisturbed h.phase (h.answers hw)
  rw [storePrefetch_of_lt hk] at hs
  exact ⟨_, hs, ⟨h.inputs.next hs, rfl, h.registers_next hs, rfl, prefetch_beforeEvent (s := s.ticked) h.before⟩,
    by simp, by simp, by simp⟩

theorem step_lastPrefetch {w : Long} (h : s.BootsAt m p (.prefetch 3)) (hw : m.longAt (s.prefetchAddr 3) = some w) :
    ∃ t, step s = .next t ∧ t.BootInputs m p ∧ t.final ∧ t.registersReset ∧ t.isp = s.isp ∧ t.pc = s.pc ∧
      t.pf = s.pf ++ [w] ∧ t.history = t.resetHistory := by
  have hs := step_of_prefetch h.inputs.undisturbed h.phase (h.answers hw)
  rw [storePrefetch_last] at hs
  obtain ⟨-, -, hhist⟩ := prefetch_beforeEvent (s := s.ticked) (w := w) h.before
  exact ⟨_, hs, h.inputs.next hs, rfl, h.registers_next hs, by simp, by simp, by simp, hhist⟩

end State.BootsAt

theorem runSteps_add {n : Nat} (k : Nat) (h : runSteps n s = .next t) : runSteps (n + k) s = runSteps k t := by
  induction n generalizing s with
  | zero =>
    cases h
    rw [Nat.zero_add]
  | succ n ih =>
    rw [Nat.add_right_comm]
    simp only [runSteps] at h ⊢
    split at h
    · exact ih h
    · cases h
    · cases h

/-- The end of the hold and the grant that is there already: two turns, and the bus events are to come. -/
theorem boot_from_hold (h : s.BootInputs m p) (hp : s.phase = .hold 0) (hh : s.history = []) (hpf : s.pf = []) :
    ∃ t u, step s = .next t ∧ step t = .next u ∧ u.BootsAt m p .iack := by
  have hs := step_of_hold_zero h.undisturbed hp
  have h' := h.next hs
  have ht := step_of_awaitBus h'.undisturbed rfl
  rw [if_pos h'.bg] at ht
  exact ⟨_, _, hs, ht, h'.next ht, rfl, (h'.rowEffect ht).registersReset endHold_registersReset, rfl, hh, hpf⟩

end

/-- Settles O32: `n` clocks of hold, the two turns to the bus events, and the seven events. -/
theorem ordinaryBootConcludes : Obligations.OrdinaryBootConcludes := by
  intro s n v0 v1 w0 w1 w2 w3 hp hsch hr hbg hk hresp hh hpf m0 m4 heven mw0 mw1 mw2 mw3
  have hhold := holdLastsItsClocks s n n hsch hr hp le_rfl
  rw [Nat.sub_self] at hhold
  rw [runSteps_add 9 hhold]
  obtain ⟨s1, s2, e1, e2, b2⟩ := boot_from_hold (m := s.mem) (p := s.tc.p) ⟨hsch, hr, hbg, hk, hresp, rfl, rfl⟩
    (s := { s with phase := .hold 0, clock := s.clock + n, rstiAge := s.rstiAge + n }) rfl hh hpf
  obtain ⟨s3, e3, b3⟩ := b2.step_iack
  obtain ⟨s4, e4, b4⟩ := b3.step_vector0 m0
  obtain ⟨s5, e5, b5, hisp5, hpc5, hpf5⟩ := b4.step_vector1 m4 heven
  obtain ⟨s6, e6, b6, hisp6, hpc6, hpf6⟩ := b5.step_prefetch (w := w0) (by decide) (by simpa [State.prefetchAddr, hpc5])
  rw [hpc5] at hpc6
  obtain ⟨s7, e7, b7, hisp7, hpc7, hpf7⟩ := b6.step_prefetch (by decide) (by rw [State.prefetchAddr, hpc6]; exact mw1)
  rw [hpc6] at hpc7
  obtain ⟨s8, e8, b8, hisp8, hpc8, hpf8⟩ := b7.step_prefetch (by decide) (by rw [State.prefetchAddr, hpc7]; exact mw2)
  rw [hpc7] at hpc8
  obtain ⟨s9, e9, i9, hf, hreg, hisp9, hpc9, hpf9, hhist⟩ :=
    b8.step_lastPrefetch (by rw [State.prefetchAddr, hpc8]; exact mw3)
  have hisp : s9.isp = v0 := by rw [hisp9, hisp8, hisp7, hisp6, hisp5]
  have hpc : s9.pc = v1 := by rw [hpc9, hpc8]
  have hpf : s9.pf = [w0, w1, w2, w3] := by simp [hpf9, hpf8, hpf7, hpf6, hpf5]
  refine ⟨s9, ?_, hf, hreg, hisp, hpc, hpf, i9.page, i9.mem, by rw [hhist, State.resetHistory, hisp, hpc, hpf]⟩
  rw [runSteps_of_next 8 e1, runSteps_of_next 7 e2, runSteps_of_next 6 e3, runSteps_of_next 5 e4,
    runSteps_of_next 4 e5, runSteps_of_next 3 e6, runSteps_of_next 2 e7, runSteps_of_next 1 e8, runSteps_of_next 0 e9,
    runSteps]

/-! ### The mode pins (rule R116, D15)

The step with other pins and another SPECIAL_MODES comes, operation by operation, to what it comes to without: an
observer who does not see them cannot tell. -/

/-- `s` with other levels on the five inputs, now and at the negation of RSTI, and another SPECIAL_MODES. -/
def State.setModePins (s : State) (p q m : ModePins) : State :=
  { s with pins := p, pinsAtNegation := q, specialModes := m }

section

variable {s : State} {p q m : ModePins}

theorem hide_readThen (cause : ReadCause) (a : Long) {go : Long → State → State}
    (hgo : ∀ v u, hideModePins (.next (go v (u.setModePins p q m))) = hideModePins (.next (go v u))) :
    hideModePins ((s.setModePins p q m).readThen cause a go) = hideModePins (s.readThen cause a go) := by
  have hread : (s.setModePins p q m).busRead a = s.busRead a := rfl
  simp only [State.readThen, hread]
  cases s.busRead a with
  | value v => exact hgo v (s.endTransfer.record (.read cause a v))
  | _ => rfl

theorem hide_processEvent (e : BusEvent) :
    hideModePins ((s.setModePins p q m).processEvent e) = hideModePins (s.processEvent e) := by
  cases e with
  | iack =>
    show hideModePins (.next (if s.bg then _ else _)) = hideModePins (.next (if s.bg then _ else _))
    split <;> rfl
  | vector0 =>
    exact hide_readThen (go := fun v t => { t with phase := .processing (.vector1 v) }) .exceptionVectorFetch
      s.vectorBase fun _ _ => rfl
  | vector1 v0 =>
    exact hide_readThen (go := fun v t => t.loadVector v0 v) .exceptionVectorFetch (s.vectorBase + 4) fun _ _ => rfl
  | prefetch k =>
    refine hide_readThen (go := fun w t => t.storePrefetch k w) .disabledCache (s.prefetchAddr k) fun w u => ?_
    unfold State.storePrefetch
    split <;> rfl

theorem hide_runInstruction :
    hideModePins (s.setModePins p q m).runInstruction = hideModePins s.runInstruction := by
  have hfetch : (s.setModePins p q m).fetch = s.fetch := rfl
  obtain ⟨hs, hu⟩ | ⟨f, hs, hu⟩ | ⟨r, hs, hu⟩ := runInstruction_agree hfetch rfl <;> rw [hs, hu]
  rfl

theorem hide_phaseRow : hideModePins (s.setModePins p q m).phaseRow = hideModePins s.phaseRow := by
  cases hp : s.phase with
  | running =>
    rw [phaseRow_running hp, phaseRow_running (s := s.setModePins p q m) hp]
    show hideModePins (if s.rsti then _ else _) = hideModePins (if s.rsti then _ else _)
    split
    · rfl
    · exact hide_runInstruction
  | asserted =>
    rw [phaseRow_asserted hp, phaseRow_asserted (s := s.setModePins p q m) hp]
    show hideModePins (.next (if s.negationSeen then _ else _)) = hideModePins (.next (if s.negationSeen then _ else _))
    split <;> rfl
  | hold n =>
    cases n with
    | zero =>
      rw [phaseRow_hold_zero hp, phaseRow_hold_zero (s := s.setModePins p q m) hp]
      rfl
    | succ n =>
      rw [phaseRow_hold_succ hp, phaseRow_hold_succ (s := s.setModePins p q m) hp]
      rfl
  | awaitBus =>
    rw [phaseRow_awaitBus hp, phaseRow_awaitBus (s := s.setModePins p q m) hp]
    show hideModePins (.next (if s.bg then _ else _)) = hideModePins (.next (if s.bg then _ else _))
    split <;> rfl
  | processing e =>
    rw [phaseRow_processing hp, phaseRow_processing (s := s.setModePins p q m) hp]
    exact hide_processEvent e
  | done =>
    rw [phaseRow_done hp, phaseRow_done (s := s.setModePins p q m) hp]
    rfl
  | faulted f =>
    rw [phaseRow_faulted hp, phaseRow_faulted (s := s.setModePins p q m) hp]
    show hideModePins (if s.rsti || !s.schedule.isEmpty then _ else _) =
      hideModePins (if s.rsti || !s.schedule.isEmpty then _ else _)
    split <;> rfl

theorem hide_applyEnv (e : EnvMove) :
    hideModePins (.next ((s.setModePins p q m).applyEnv e)) = hideModePins (.next (s.applyEnv e)) := by
  cases e with
  | assertRsti late =>
    show hideModePins (.next (if s.rsti = true then _ else _)) = hideModePins (.next (if s.rsti = true then _ else _))
    split <;> rfl
  | negateRsti late levels =>
    cases hr : s.rsti <;> simp [State.applyEnv, State.negateRsti, State.driveRsti, State.setModePins, hr, hideModePins]
  | _ => rfl

end

/-- Settles O36: both agents' turns, the processor's by the row of its phase. -/
theorem modePinsInfluenceNothing : Obligations.ModePinsInfluenceNothing := by
  intro s p q m
  show hideModePins (step (s.setModePins p q m)) = hideModePins (step s)
  by_cases hn : s.processorNext
  · rw [step_of_processorNext hn, step_of_processorNext (s := s.setModePins p q m) hn]
    show hideModePins (if s.ticked.assertionSeen && s.phase != .asserted then _ else _) =
      hideModePins (if s.ticked.assertionSeen && s.phase != .asserted then _ else _)
    split
    · rfl
    · exact hide_phaseRow (s := s.ticked)
  · obtain ⟨e, rest, hs⟩ := env_of_not_processorNext hn
    rw [step_of_env hs, step_of_env (s := s.setModePins p q m) hs]
    exact hide_applyEnv (s := { s with schedule := rest }) e

end Sys2Proof.Machine
end

section
namespace Sys2Proof.Machine

/-! ### The general registers (10_state.md section 4; logs 14, 31)

A write to a data register, to A0 to A6, and to the active stack pointer: what is read back, and what the others
hold. -/

section

variable (s : State) (v : Long)

@[simp] theorem setActiveSp_d : (s.setActiveSp v).d = s.d := by
  unfold State.setActiveSp
  split <;> rfl

@[simp] theorem setActiveSp_a : (s.setActiveSp v).a = s.a := by
  unfold State.setActiveSp
  split <;> rfl

@[simp] theorem activeSp_setActiveSp : (s.setActiveSp v).activeSp = v := by
  unfold State.setActiveSp
  split <;> next hm => simp only [State.activeSp, hm]

theorem readReg_data (n : BitVec 3) : s.readReg (.data n) = s.d[n.toNat]'n.isLt := rfl

theorem readReg_addr_of_lt {n : BitVec 3} (h : n.toNat < 7) : s.readReg (.addr n) = s.a[n.toNat]'h := dif_pos h

theorem readReg_addr_of_not_lt {n : BitVec 3} (h : ¬ n.toNat < 7) : s.readReg (.addr n) = s.activeSp := dif_neg h

theorem writeReg_addr_of_lt {n : BitVec 3} (h : n.toNat < 7) :
    s.writeReg (.addr n) v = { s with a := s.a.set n.toNat v h } := dif_pos h

theorem writeReg_addr_of_not_lt {n : BitVec 3} (h : ¬ n.toNat < 7) :
    s.writeReg (.addr n) v = s.setActiveSp v := dif_neg h

theorem readReg_writeReg_self (r : GeneralReg) : (s.writeReg r v).readReg r = v := by
  cases r with
  | data n => exact Vector.getElem_set_self n.isLt
  | addr n =>
    by_cases h : n.toNat < 7
    · rw [writeReg_addr_of_lt s v h, readReg_addr_of_lt _ h]
      exact Vector.getElem_set_self h
    · rw [writeReg_addr_of_not_lt s v h, readReg_addr_of_not_lt _ h, activeSp_setActiveSp]

theorem readReg_writeReg_of_ne {r q : GeneralReg} (hne : q ≠ r) : (s.writeReg r v).readReg q = s.readReg q := by
  have numbers_ne {n k : BitVec 3} (h : k ≠ n) : n.toNat ≠ k.toNat := fun he => h (BitVec.eq_of_toNat_eq he.symm)
  cases r with
  | data n =>
    cases q with
    | data k => exact Vector.getElem_set_ne n.isLt k.isLt (numbers_ne fun h => hne (congrArg _ h))
    | addr k => rfl
  | addr n =>
    by_cases h : n.toNat < 7
    · rw [writeReg_addr_of_lt s v h]
      cases q with
      | data k => rfl
      | addr k =>
        by_cases hk : k.toNat < 7
        · rw [readReg_addr_of_lt _ hk, readReg_addr_of_lt _ hk]
          exact Vector.getElem_set_ne h hk (numbers_ne fun h => hne (congrArg _ h))
        · rw [readReg_addr_of_not_lt _ hk, readReg_addr_of_not_lt _ hk]
          rfl
    · rw [writeReg_addr_of_not_lt s v h]
      cases q with
      | data k => simp only [readReg_data, setActiveSp_d]
      | addr k =>
        have := numbers_ne fun h => hne (congrArg GeneralReg.addr h)
        have hk : k.toNat < 7 := by omega
        simp only [readReg_addr_of_lt _ hk, setActiveSp_a]

end

/-- Settles O38: read after write for the same and for another register, and A7 by its mode. -/
theorem generalRegisterReadAfterWrite : Obligations.GeneralRegisterReadAfterWrite :=
  ⟨fun s r _ v => ⟨readReg_writeReg_self s v r, readReg_writeReg_of_ne s v⟩,
    fun s => ⟨readReg_a7 s, activeSp_of_interruptMode⟩⟩

/-! ### Fetching and running (beyond the end of the spec's run: rules R27, R64, R121, R125; logs 3, 12, 13, 34)

With translation off the fetch is the bus's bytes, or the stale prefetched long words; a step in `Running` runs what the
fetch decodes to. -/

section

variable {s : State}

/-- The fetch with translation off. -/
theorem fetch_of_translationOff (h : s.translationOn = false) :
    s.fetch = if s.prefetchStale && Config.prefetchServes s.clock then .prefetched else s.busBytes := by
  simp only [State.fetch, h, Bool.false_eq_true, if_false]

/-- The bus's bytes are memory's, with the instruction cache off and the bus answering. -/
theorem busBytes_of_answered (hc : s.cacr.ie = false) (hb : s.bg = true) (hr : s.response = .normal) :
    s.busBytes = .bytes (s.fetchMemory.bytesFrom s.pc 4) := by
  simp only [State.busBytes, hc, hb, hr, Bool.false_eq_true, if_false, if_true]

/-- The prefetched long words are stale when the first is not what memory holds at PC. -/
theorem prefetchStale_iff :
    s.prefetchStale = true ↔ ∃ w ws, s.pf = w :: ws ∧ s.fetchMemory.bytesFrom s.pc 4 ≠ longBytes w := by
  unfold State.prefetchStale
  split
  · next h => simp [h]
  · next w ws h => simp [h]

theorem fetch_of_not_stale (ht : s.translationOn = false) (h : s.prefetchStale = false) : s.fetch = s.busBytes := by
  rw [fetch_of_translationOff ht, h]
  rfl

/-- PF makes no difference to the fetch but that, stale, it may be served itself (rules R64, R121). -/
theorem fetch_without_pf (s : State) :
    (s.prefetchStale = true ∧ s.fetch = .prefetched) ∨ s.fetch = ({ s with pf := [] }).fetch := by
  cases ht : s.translationOn with
  | true => exact .inr ((fetch_of_translationOn ht).trans (fetch_of_translationOn (s := { s with pf := [] }) ht).symm)
  | false =>
    have hs := fetch_of_translationOff ht
    split at hs
    · next h => exact .inl ⟨(Bool.and_eq_true_iff.1 h).1, hs⟩
    · exact .inr (hs.trans (fetch_of_not_stale (s := { s with pf := [] }) ht rfl).symm)

/-- In `Running` only the clock passes while an assertion of RSTI is on its way through the synchroniser. -/
theorem step_of_running_asserted (h : s.undisturbed) (hr : s.rsti = true) (hp : s.phase = .running) :
    step s = .next s.ticked := by
  rw [step_of_undisturbed h, phaseRow_running (s := s.ticked) hp]
  exact if_pos hr

/-- A whole long word fetched is refused: it decodes to an instruction, which refuses, or has the unnamed verdict. -/
theorem runInstruction_of_longBytes {w : Long} (hf : s.fetch = .bytes (longBytes w)) :
    ∃ r, s.runInstruction = .refused r := by
  obtain ⟨i, rest, hd⟩ | hd := decoderVerdictOnEveryWord (w.extractLsb' 24 8) (w.extractLsb' 16 8)
    [w.extractLsb' 8 8, w.extractLsb' 0 8]
  · obtain ⟨r, hr⟩ := exec_refused i
    exact ⟨r, (runInstruction_of_decoded hf hd).trans (hr s)⟩
  · exact ⟨_, runInstruction_of_notInSource hf hd⟩

end

/-- Settles O45: the row `Running`, and running an instruction that decodes. -/
theorem stepRunsDecodedInstruction : Obligations.StepRunsDecodedInstruction :=
  fun _ _ _ _ hn hr hp hf hd => (step_of_running hn hr hp).trans (runInstruction_of_decoded hf hd)

/-- Settles O46: the fetch reads memory as it sees it, which differs from memory by pending write-backs only; what it
may serve instead is a non-empty PF that memory no longer holds. -/
theorem fetchReadsAtPc : Obligations.FetchReadsAtPc := by
  intro s ht hc hb hr
  have hbus := busBytes_of_answered hc hb hr
  refine ⟨fun w hwb hw hpf => ?_, ?_, fun a => settleWriteBacks_readByte _ 0 s.writeBacks s.mem a⟩
  · have hbytes : s.fetchMemory.bytesFrom s.pc 4 = longBytes w := by
      rw [fetchMemory_of_settled hwb, Memory.bytesFrom_of_longAt hw]
    have hstale : s.prefetchStale = false := by
      refine eq_false_of_ne_true fun h => ?_
      obtain ⟨w', ws, hws, hne⟩ := prefetchStale_iff.1 h
      obtain hnil | hhead := hpf
      · simp [hws] at hnil
      · obtain rfl : w' = w := by simpa [hws] using hhead
        exact hne hbytes
    rw [fetch_of_not_stale ht hstale, hbus, hbytes]
  · rw [fetch_of_translationOff ht]
    split
    · next h =>
      obtain ⟨w, ws, hws, -⟩ := prefetchStale_iff.1 (Bool.and_eq_true_iff.1 h).1
      exact .inl ⟨rfl, by simp [hws]⟩
    · exact .inr hbus

/-- Settles O47: the row `Done`; and in `Running` whichever of its sources the fetch takes, what it reads is refused. -/
theorem firstInstructionIsRefused : Obligations.FirstInstructionIsRefused := by
  refine ⟨fun s hu hp => ?_, fun s w hn hr hp ht hb hresp hwb hw => ?_⟩
  · rw [step_of_undisturbed hu, phaseRow_done (s := s.ticked) hp]
    rfl
  · rw [step_of_running hn hr hp]
    have hfetch := fetch_of_translationOff (s := s.ticked) ht
    split at hfetch
    · exact ⟨_, runInstruction_of_prefetched hfetch⟩
    · cases hc : s.cacr.ie with
      | true =>
        refine runInstruction_of_longBytes (w := Config.cachedWord s.ticked.clock) (hfetch.trans ?_)
        simp only [State.busBytes, State.ticked_cacr, hc, if_true]
      | false =>
        refine runInstruction_of_longBytes (w := w) (hfetch.trans ?_)
        rw [busBytes_of_answered (s := s.ticked) hc hb hresp, fetchMemory_of_settled (s := s.ticked) hwb]
        exact congrArg _ (Memory.bytesFrom_of_longAt hw)

/-- Settles O48: the placed long word is what the fetch reads. -/
theorem placedInstructionRuns : Obligations.PlacedInstructionRuns := by
  intro s nbits w i h
  obtain ⟨rest, hd⟩ : ∃ rest, decode (longBytes (tableLong nbits w)) = .ok (i, rest) := by
    unfold decodeTableWord at h
    split at h
    · next i' rest hd =>
      cases h
      exact ⟨rest, hd⟩
    · cases h
  refine stepRunsDecodedInstruction _ _ rest i trivial rfl rfl ?_ hd
  rw [fetch_of_not_stale rfl rfl, busBytes_of_answered rfl rfl rfl, fetchMemory_of_settled rfl]
  exact congrArg _ (Memory.bytesFrom_writeLong s.mem s.pc (tableLong nbits w))

/-- Settles O52: without PF the fetch is the bus's; with it, that or the stale prefetched long words, which are
refused. -/
theorem prefetchedWordsAreNeverDecoded : Obligations.PrefetchedWordsAreNeverDecoded := by
  intro s t ht hp hn
  have hpt : t.phase = .running := by rw [ht]; exact hp
  have hnt : t.processorNext := by rw [ht]; exact hn
  have hrt : t.rsti = s.rsti := by rw [ht]
  have hticked : t.ticked = { s.ticked with pf := [] } := by rw [ht]; rfl
  have hseent : t.ticked.assertionSeen = s.ticked.assertionSeen := by rw [hticked]; rfl
  cases hseen : s.ticked.assertionSeen with
  | true =>
    rw [step_of_recognised hn hseen (by simp [hp]), step_of_recognised hnt (hseent.trans hseen) (by simp [hpt]),
      hticked]
    exact .inr (.inl ⟨_, rfl, rfl⟩)
  | false =>
    cases hr : s.rsti with
    | true =>
      rw [step_of_running_asserted ⟨hn, hseen⟩ hr hp,
        step_of_running_asserted ⟨hnt, hseent.trans hseen⟩ (hrt.trans hr) hpt, hticked]
      exact .inr (.inl ⟨_, rfl, rfl⟩)
    | false =>
      rw [step_of_running hn hr hp, step_of_running hnt (hrt.trans hr) hpt, hticked]
      obtain ⟨hstale, hserved⟩ | hfetch := fetch_without_pf s.ticked
      · exact .inl ⟨runInstruction_of_prefetched hserved, prefetchStale_iff.1 hstale⟩
      · obtain ⟨hwait, hwaitt⟩ | hfault | hrefused := runInstruction_agree hfetch.symm rfl
        · exact .inr (.inl ⟨_, hwait, hwaitt⟩)
        · exact .inr (.inr (.inl hfault))
        · exact .inr (.inr (.inr hrefused))

end Sys2Proof.Machine
end
